-- ==== Sys2Proof/Word.lean ====
section
/-! DEFINITION. The word types: bytes, nibbles and the cells of the probability model. -/

namespace Sys2Proof

/-- A byte, u8 (R11). -/
abbrev Byte := BitVec 8

/-- A nibble, a 4-bit unsigned value (R11). -/
abbrev Nibble := BitVec 4

/-- A CDF16 cell: sixteen cumulative counts `c[0..15]`, each u16 (R200). -/
abbrev Cdf16 := Vector (BitVec 16) 16

/-- A CDF2 cell: `c[0]` the count of false, `c[1]` the total, each u16 (R224). -/
abbrev Cdf2 := Vector (BitVec 16) 2

end Sys2Proof
end

