-- ==== Sys2Proof/Config.lean ====
section
/-! DEFINITION. The implementation parameters of R8 to R10, and the free values: the opaque constants have no
body, so every statement about the model holds whatever they are. -/

namespace Sys2Proof

/-- `L`, the lower bound of the normalized ANS1 state (R8). -/
abbrev Config.ansL : Nat := 2147483648

/-- `NORMALIZATION_INTERVAL` of ANS2, also `ENC_START_STATE` (R8, R9). -/
abbrev Config.normInterval : Nat := 2147483648

/-- `CDF_MAX` (R8). -/
abbrev Config.cdfMax : Nat := 32767

/-- `NUM_SYMBOLS_BEFORE_FLUSH`, the pairs of one ANS2 batch (R8). -/
abbrev Config.batchSyms : Nat := 16384

/-- `ANS1_CHUNK_SYMS`, the bits of one ANS1 chunk (R9). -/
abbrev Config.chunkSyms : Nat := 16384

/-- Slots of the ring `IN`: `IN_QUEUE_CAPACITY + 1` (R9, R121). -/
abbrev Config.inSlots : Nat := 65537

/-- `OUT_STACK_SIZE` (R9, R122). -/
abbrev Config.outSize : Nat := 65536

/-- Bytes of `B1MEM` (R44). -/
abbrev Config.b1memSize : Nat := 65536

/-- `FREQ_RESCALE_LIMIT` (R9). -/
abbrev Config.rescaleLimit : Nat := 32351

/-- `MAX_DISTANCE` (R9). -/
abbrev Config.maxDistance : Nat := 4294967295

/-- `LIT_CMAP_CAPACITY` (R9). -/
abbrev Config.litCmapCapacity : Nat := 16384

/-- `DIST_CMAP_CAPACITY` (R9). -/
abbrev Config.distCmapCapacity : Nat := 1024

/-- `NUM_PRIORS`; as a cell address, the address of `MIX` (R9, R90). -/
abbrev Config.numPriors : Nat := 41887

/-- `WEIGHT_SHIFT` (R9). -/
abbrev Config.weightShift : Nat := 4

/-- The open parameter `LITERAL_MAX_LEN` before its lower bound is applied (R10). -/
opaque Config.literalMaxLenRaw : BitVec 32

/-- The open parameter `LITERAL_MAX_LEN`, at least 1 and at most `2^32 - 1` (R10; log 3). -/
abbrev Config.literalMaxLen : Nat := max 1 Config.literalMaxLenRaw.toNat

/-- The open parameter `CTX6(mode, p1, p2)`, used for prediction modes 2 and 3: a total function into `0..63`
(R10, R310; log 3). -/
opaque Config.ctx6 : BitVec 2 → Byte → Byte → BitVec 6

/-- FREE VALUE. The quotient of R240 for a residual range `(lo, mid, hi)` whose differences are negative: `hi < lo` or
`mid < lo`. Only a nibble resumed with another cell reaches it (log 4). -/
opaque Config.freeBitQuotient : Nat → Nat → Nat → Nat

/-- FREE VALUE. The scaled count R217 gives a symbol below 15, with the count `c` and the number `s`, in a cell of
total 0, where the rule's division has no quotient. Only a `MIX` averaged several times from itself reaches it
(log 15). -/
opaque Config.freeScaled : (c s : Nat) → Fin 32769

/-- FREE VALUE. The frequency R218 gives a symbol whose scaled bounds `lo`, `hi` do not satisfy `lo < hi`. Only a
`MIX` averaged from itself or from thin host-written cells reaches it (log 5). -/
opaque Config.freeFreq : Nat → Nat → BitVec 16

end Sys2Proof
end

