-- ==== Sys2Proof/Machine/Bytes.lean ====
section
/-! DEFINITION. Splitting numbers into bytes and building them back (R13, R63), and the bit length (R12). -/

namespace Sys2Proof.Machine

/-- `bitlen(a)`, the number of bits of `a`; `bitlen(0) = 0` (R12). -/
def bitlen (a : Nat) : Nat := if a = 0 then 0 else Nat.log2 a + 1

/-- The `n` bytes of `v`, least significant first: `le32`, `le64` (R13). -/
def leBytes : Nat → Nat → List Byte
  | 0, _ => []
  | n + 1, v => BitVec.ofNat 8 v :: leBytes n (v / 256)

/-- `from_le`: the number whose bytes, least significant first, are given (R13). -/
def fromLE : List Byte → Nat
  | [] => 0
  | b :: bs => b.toNat + 256 * fromLE bs

/-- The `n` bytes of `v`, most significant first: `be16`, `be32`, `be64` (R13). -/
def beBytes (n v : Nat) : List Byte := (leBytes n v).reverse

/-- `from_be` (R13). -/
def fromBE (bs : List Byte) : Nat := fromLE bs.reverse

end Sys2Proof.Machine
end

