-- ==== Sys2Proof/Machine/Memory.lean ====
section
/-! DEFINITION. A memory of the CORE: one index space of R44, held as a list of (address, cell) pairs in one
canonical form. An unlisted address reads as the memory's reset contents `d`. -/

namespace Sys2Proof.Machine

/-- The cells of one memory. `Memory Byte` is a list of `Host.Cell`. -/
abbrev Memory (α : Type) := List (Nat × α)

/-- What address `a` reads as; an unlisted address holds the reset contents `d` (R44). -/
def Memory.read {α : Type} (d : α) : Memory α → Nat → α
  | [], _ => d
  | (k, v) :: m, a => if a = k then v else Memory.read d m a

/-- Put `v` at address `a`, keeping the list sorted; a cell that gets the reset contents is taken out. -/
def Memory.write {α : Type} [DecidableEq α] (d : α) : Memory α → Nat → α → Memory α
  | [], a, v => if v = d then [] else [(a, v)]
  | (k, x) :: m, a, v =>
    if a < k then (if v = d then (k, x) :: m else (a, v) :: (k, x) :: m)
    else if a = k then (if v = d then m else (a, v) :: m)
    else (k, x) :: Memory.write d m a v

/-- Write `vs` at addresses `a`, `a + 1`, … in order. -/
def Memory.writeList {α : Type} [DecidableEq α] (d : α) (m : Memory α) (a : Nat) : List α → Memory α
  | [] => m
  | v :: vs => Memory.writeList d (Memory.write d m a v) (a + 1) vs

/-- The cells at `a`, `a + 1`, …, `a + n - 1`. -/
def Memory.readList {α : Type} (d : α) (m : Memory α) (a : Nat) : Nat → List α
  | 0 => []
  | n + 1 => Memory.read d m a :: Memory.readList d m (a + 1) n

/-- Every listed address is above `lo`, and the addresses rise strictly, and no cell holds the reset contents. -/
def Memory.wfFrom {α : Type} [DecidableEq α] (d : α) : Nat → Memory α → Bool
  | _, [] => true
  | lo, (k, v) :: m => decide (lo ≤ k) && decide (v ≠ d) && Memory.wfFrom d (k + 1) m

/-- The canonical form: addresses strictly rising and no cell equal to what an unlisted address reads as. -/
def Memory.wf {α : Type} [DecidableEq α] (d : α) (m : Memory α) : Bool := Memory.wfFrom d 0 m

end Sys2Proof.Machine
end

