-- ==== Sys2Proof/Syntax.lean ====
section
/-! DEFINITION. The syntax of what the CORE executes: the operations of the operation port and the rows of the coded-nibble value tables, one constructor for each row of spec/opcode_table.json. -/

namespace Sys2Proof

/-- The queue selector `q` (R90): 0 is `IN`, 1 is `OUT`. -/
inductive Queue where
  | input
  | output
  deriving DecidableEq, Repr

/-- The command record (R42), a tagged value: `kind` is the command-type nibble of R97 and says which other
fields mean something. The record also stands for an operand whose kind is no command (R344 refuses it). -/
structure Command where
  kind        : Nibble
  distance    : BitVec 32
  numBytes    : BitVec 32
  len         : BitVec 32
  highEntropy : Bool
  data        : List Byte
  wordId      : BitVec 32
  wordSize    : BitVec 32
  transform   : BitVec 32
  finalSize   : BitVec 32
  blockType   : Byte
  pm          : BitVec 2
  speedStride : BitVec 3
  speedCm     : BitVec 3
  litMap      : List Byte
  distMap     : List Byte
  deriving DecidableEq, Repr

/-- The command of kind `k` with every field 0 or empty: what the type step leaves in a decode session (R301). -/
def Command.blank (k : Nibble) : Command where
  kind := k
  distance := 0
  numBytes := 0
  len := 0
  highEntropy := false
  data := []
  wordId := 0
  wordSize := 0
  transform := 0
  finalSize := 0
  blockType := 0
  pm := 0
  speedStride := 0
  speedCm := 0
  litMap := []
  distMap := []

/-- The twelve value tables of coded nibbles (R97, R99 to R104), by the format name of the opcode table. -/
inductive NibbleTable where
  | cmdType
  | small
  | firstCopy
  | greaterCopy
  | firstLit
  | greaterLit
  | header
  | distMnemonic
  | cmapEntry
  | highEntropy
  | predMode
  | speed
  deriving DecidableEq, Repr

/-- One constructor per row of spec/opcode_table.json. The first 47 are the operations of R90 with their
operands; the other 192 are the values of the coded nibbles, table by table. -/
inductive Instr where
  -- the operation port (R90)
  | reset
  | setCfg (cfg : BitVec 8)
  | getStatus
  | encodeCmd (cmd : Command)
  | decodeCmd
  | encFinish
  | bqNumPushAvail (q : Queue)
  | bqNumPopAvail (q : Queue)
  | bqPushData (q : Queue) (src : List Byte)
  | bqPopData (q : Queue) (len : BitVec 32)
  | bEncodeInit
  | bEncode (bit : Bool) (p : Byte)
  | bEncodeFlush
  | bDecodeInit
  | bDecode (p : Byte)
  | bDecodeWillAdvance (x1 : BitVec 64)
  | bDecodeAdvance (x1 : BitVec 64)
  | bChunkPutBit (bit : Bool) (p : Byte)
  | bChunkFlush
  | bChunkGetBit (p : Byte)
  | b1memWrite (addr : BitVec 16) (byte : Byte)
  | b1memRead (addr : BitVec 16)
  | nEncPut (start freq : BitVec 16)
  | nFlushChunk
  | nDecFill
  | nDecGetOffset
  | nDecAdvanceSym (start freq : BitVec 16)
  | nPutBit (bit : Bool) (p : Byte)
  | nGetBit (p : Byte)
  | pCdf (a : BitVec 16) (sym : Nibble)
  | pPdf (a : BitVec 16) (sym : Nibble)
  | pMax (a : BitVec 16)
  | pLogMax (a : BitVec 16)
  | pBlend (a : BitVec 16) (sym : Nibble) (speed : BitVec 3)
  | pAverage (a b w : BitVec 16)
  | pSymToStartFreq (a : BitVec 16) (sym : Nibble)
  | pOffsetToSym (a offset : BitVec 16)
  | pValid (a : BitVec 16)
  | p2Blend (a2 : Nibble) (bit : Bool) (speed : BitVec 3)
  | p2Prob (a2 : Nibble)
  | p2OffsetToSym (a2 : Nibble) (offset : BitVec 16)
  | pRead (a : BitVec 16)
  | pWrite (a : BitVec 16) (c : Cdf16)
  | tPutNibble (a : BitVec 16) (nibble : Nibble)
  | tGetNibble (a : BitVec 16)
  | tPutBit (bit : Bool) (p : Byte)
  | tGetBit (p : Byte)
  -- NIBBLE_CMD_TYPE: 30_encoding.md rule R97
  | cmdCopy
  | cmdDict
  | cmdLiteral
  | cmdBlockswitchLiteral
  | cmdBlockswitchCommand
  | cmdBlockswitchDistance
  | cmdPredictionMode
  | cmdEof
  | cmdReserved0
  | cmdReserved8
  | cmdReserved9
  | cmdReserved10
  | cmdReserved11
  | cmdReserved12
  | cmdReserved13
  | cmdReserved14
  -- NIBBLE_SMALL: 30_encoding.md rule R99
  | smallValue0
  | smallValue1
  | smallValue2
  | smallValue3
  | smallValue4
  | smallValue5
  | smallValue6
  | smallValue7
  | smallValue8
  | smallValue9
  | smallFirst
  | smallGreater
  | smallRepeat
  | smallMantissa
  | smallReserved14
  | smallReserved15
  -- NIBBLE_FIRST_COPY: 30_encoding.md rule R100
  | firstCopy0
  | firstCopy1
  | firstCopy2
  | firstCopy3
  | firstCopy4
  | firstCopy5
  | firstCopy6
  | firstCopy7
  | firstCopy8
  | firstCopy9
  | firstCopy10
  | firstCopy11
  | firstCopy12
  | firstCopy13
  | firstCopy14
  | firstCopy15
  -- NIBBLE_GREATER_COPY: 30_encoding.md rule R100
  | greaterCopy0
  | greaterCopy1
  | greaterCopy2
  | greaterCopy3
  | greaterCopy4
  | greaterCopy5
  | greaterCopy6
  | greaterCopy7
  | greaterCopy8
  | greaterCopy9
  | greaterCopy10
  | greaterCopy11
  | greaterCopy12
  | greaterCopy13
  | greaterCopy14
  | greaterCopy15
  -- NIBBLE_FIRST_LITERAL: 30_encoding.md rule R100
  | firstLit0
  | firstLit1
  | firstLit2
  | firstLit3
  | firstLit4
  | firstLit5
  | firstLit6
  | firstLit7
  | firstLit8
  | firstLit9
  | firstLit10
  | firstLit11
  | firstLit12
  | firstLit13
  | firstLit14
  | firstLit15
  -- NIBBLE_GREATER_LITERAL: 30_encoding.md rule R100
  | greaterLit0
  | greaterLit1
  | greaterLit2
  | greaterLit3
  | greaterLit4
  | greaterLit5
  | greaterLit6
  | greaterLit7
  | greaterLit8
  | greaterLit9
  | greaterLit10
  | greaterLit11
  | greaterLit12
  | greaterLit13
  | greaterLit14
  | greaterLit15
  -- NIBBLE_MANTISSA_HEADER: 30_encoding.md rule R101
  | header0
  | header1
  | header2
  | header3
  | header4
  | header5
  | header6
  | header7
  | header8
  | header9
  | header10
  | header11
  | header12
  | header13
  | header14
  | header15
  -- NIBBLE_DIST_MNEMONIC: 30_encoding.md rule R102
  | distMnemonic0
  | distMnemonic1
  | distMnemonic2
  | distMnemonic3
  | distMnemonic4
  | distMnemonic5
  | distMnemonic6
  | distMnemonic7
  | distMnemonic8
  | distMnemonic9
  | distMnemonic10
  | distMnemonic11
  | distMnemonic12
  | distMnemonic13
  | distMnemonic14
  | distEscape
  -- NIBBLE_CMAP_ENTRY: 30_encoding.md rule R103
  | cmapLru0
  | cmapLru1
  | cmapLru2
  | cmapLru3
  | cmapLru4
  | cmapLru5
  | cmapLru6
  | cmapLru7
  | cmapLru8
  | cmapLru9
  | cmapLru10
  | cmapLru11
  | cmapLru12
  | cmapExplicit
  | cmapReserved14
  | cmapReserved15
  -- NIBBLE_HIGH_ENTROPY: 30_encoding.md rule R104
  | he0
  | he1
  | he2
  | he3
  | he4
  | he5
  | he6
  | he7
  | he8
  | he9
  | he10
  | he11
  | he12
  | he13
  | he14
  | he15
  -- NIBBLE_PRED_MODE: 30_encoding.md rule R104
  | pm0
  | pm1
  | pm2
  | pm3
  | pm4
  | pm5
  | pm6
  | pm7
  | pm8
  | pm9
  | pm10
  | pm11
  | pm12
  | pm13
  | pm14
  | pm15
  -- NIBBLE_SPEED: 30_encoding.md rule R104
  | speed0
  | speed1
  | speed2
  | speed3
  | speed4
  | speed5
  | speed6
  | speed7
  | speed8
  | speed9
  | speed10
  | speed11
  | speed12
  | speed13
  | speed14
  | speed15
  deriving DecidableEq, Repr

end Sys2Proof
end

