-- ==== Sys2Proof/Machine/Components.lean ====
section
/-! DEFINITION. The registers and memories of the CORE, component by component (R20), with the reset value of each
(R391): the pieces State is made of. -/

namespace Sys2Proof.Machine

/-- The four results (R360). -/
inductive Result where
  | success
  | needsMoreInput
  | needsMoreOutput
  | failure
  deriving DecidableEq, Repr

/-- The causes of `Failure` the CORE raises (R361). Code 5, `ChecksumMismatch`, is never raised (R366). -/
inductive Cause where
  | malformedCommandType
  | distanceOutOfRange
  | contextMapIndexOutOfRange
  | predictionModeOutOfRange
  | reservedNibbleCode
  | zeroFrequency
  | illegalConfiguration
  | protocolViolation
  | lengthOutOfRange
  | malformedChunk
  | invalidOffset
  deriving DecidableEq, Repr

/-- `b1_phase`, the chunk decoder's phase (R22). -/
inductive ChunkPhase where
  | needHdr
  | needPayload
  | run
  deriving DecidableEq, Repr

/-- A cell of `B1BUF` (R44). -/
structure BitCell where
  bit : Bool
  p   : Byte
  deriving DecidableEq, Repr

/-- A cell of `SYMBUF` (R44). -/
structure SymCell where
  start : BitVec 16
  freq  : BitVec 16
  deriving DecidableEq, Repr

/-- The reset contents of a `B1BUF` cell. -/
def BitCell.zero : BitCell := ⟨false, 0⟩

/-- The reset contents of a `SYMBUF` cell. -/
def SymCell.zero : SymCell := ⟨0, 0⟩

/-- The default CDF16 `[4, 8, ..., 64]` (R202), also the constant `UNIFORM` (R45). -/
def defaultCdf : Cdf16 := #v[4, 8, 12, 16, 20, 24, 28, 32, 36, 40, 44, 48, 52, 56, 60, 64]

/-- The default CDF2 `[4, 8]` (R224). -/
def defaultCdf2 : Cdf2 := #v[4, 8]

/-- ANS1: the registers of R22 and the memories `B1BUF` and `B1MEM` (R44). -/
structure Ans1 where
  r      : BitVec 64
  cursor : BitVec 32
  count  : BitVec 16
  phase  : ChunkPhase
  len    : BitVec 16
  buf    : Memory BitCell
  mem    : Memory Byte
  deriving DecidableEq, Repr

/-- ANS2: the registers of R23 and R24 and the memory `SYMBUF` (R44). -/
structure Ans2 where
  stateA   : BitVec 64
  stateB   : BitVec 64
  symCount : BitVec 32
  bootNeed : BitVec 5
  pullNeed : BitVec 3
  pullAcc  : BitVec 32
  symbuf   : Memory SymCell
  deriving DecidableEq, Repr

/-- The nibble-tree progress registers (R26). -/
structure BitTree where
  active : Bool
  k      : BitVec 2
  loSym  : BitVec 4
  lo     : BitVec 16
  hi     : BitVec 16
  nib    : Nibble
  deriving DecidableEq, Repr

/-- The byte queues: the ring `IN` (R121) and the stack `OUT` (R122). -/
structure Queues where
  inMem  : Memory Byte
  inRd   : BitVec 17
  inWr   : BitVec 17
  outMem : Memory Byte
  outLo  : BitVec 17
  deriving DecidableEq, Repr

/-- The memories of the probability model: `PRIORS`, `CDF2S`, `MIX` (R44). -/
structure Model where
  priors : Memory Cdf16
  cdf2s  : Memory Cdf2
  mix    : Cdf16
  deriving DecidableEq, Repr

/-- The cross-command bookkeeping registers (R30) and the context maps `LIT_CMAP`, `DIST_CMAP` (R44).
`weights` holds `weights[ni][h]` at index `16 * ni + h`. -/
structure Context where
  distanceLru : Vector (BitVec 32) 4
  cmapLru     : Vector Byte 13
  btypeLit    : Byte
  btypeCmd    : Byte
  btypeDist   : Byte
  lastCmd     : Nibble
  hist        : Vector Byte 8
  predMode    : BitVec 2
  speedStride : BitVec 3
  speedCm     : BitVec 3
  litCmapLen  : BitVec 15
  distCmapLen : BitVec 11
  weights     : Vector (BitVec 16) 32
  eofSeen     : Bool
  litCmap     : Memory Byte
  distCmap    : Memory Byte
  deriving DecidableEq, Repr

/-- `top_state` (R40). -/
inductive TopState where
  | topBegin
  | inCommand
  | topEof
  deriving DecidableEq, Repr

/-- The five stages of a tiered integer (R263), the mantissa stage with `(ld, lr, dsf)` (R41). -/
inductive IntStage where
  | small
  | first
  | greater
  | mantissaHeader
  | mantissaNibbles (ld lr : BitVec 4) (dsf : BitVec 32)
  deriving DecidableEq, Repr

/-- `mi`, which of the two context maps (R321): 0 the literal map, 1 the distance map. -/
inductive MapId where
  | literal
  | distance
  deriving DecidableEq, Repr

/-- `substate` (R40), with the values of R41. -/
inductive Substate where
  | begin
  | countSmall
  | countLengthFirst
  | countLengthGreater18Less25
  | countMantissaHeader
  | countMantissaNibbles (ld lr : BitVec 4) (dsf : BitVec 32)
  | countDecoded
  | distanceLengthMnemonic
  | distanceLengthFirst
  | distanceMantissaNibbles (ld lr : BitVec 4) (dsf : BitVec 32)
  | literalCountSmall
  | literalCountFirst
  | literalCountLengthGreater14Less25
  | literalCountMantissaHeader
  | literalCountMantissaNibbles (ld lr : BitVec 4) (dsf : BitVec 32)
  | literalHighEntropy
  | literalNibbleIndex (idx : BitVec 33)
  | dictField (f : Fin 4) (stage : IntStage)
  | blockTypeHigh
  | blockTypeLow
  | predMode
  | predSpeedStride
  | predSpeedCm
  | mapCount (mi : MapId) (stage : IntStage)
  | mapEntryMnemonic (mi : MapId) (j : Nat)
  | mapEntryHigh (mi : MapId) (j : Nat)
  | mapEntryLow (mi : MapId) (j : Nat)
  | fullyDecoded
  deriving DecidableEq, Repr

/-- The codec sequencing registers (R40, R41) and the command register (R42). -/
structure Codec where
  top      : TopState
  substate : Substate
  cmd      : Command
  deriving DecidableEq, Repr

/-- The control and status registers: `CFG` (R34), the stored bits of `STATUS` (R35), `ERRCODE` (R36) and
`enc_finished` (R25). The other bits of `STATUS` are computed when it is read (R343). -/
structure Control where
  cfg         : BitVec 8
  result      : Result
  failed      : Bool
  cfgLocked   : Bool
  errcode     : BitVec 8
  encFinished : Bool
  deriving DecidableEq, Repr

/-- What an operation returns besides its result (the returns column of R90). -/
inductive Returns where
  | nothing
  | status (status errcode : BitVec 8)
  | command (cmd : Command)
  | avail (n : BitVec 32)
  | count (count : BitVec 32)
  | popped (count : BitVec 32) (dst : List Byte)
  | x1Bit (x1 : BitVec 64) (bit : Bool)
  | adv (adv : Bool)
  | bit (bit : Bool)
  | byte (byte : Byte)
  | offset (offset : BitVec 16)
  | value (v : BitVec 16)
  | logMax (avail : Bool) (lg : BitVec 4)
  | startFreq (start freq : BitVec 16)
  | symStartFreq (sym : Nibble) (start freq : BitVec 16)
  | bitStartFreq (bit : Bool) (start freq : BitVec 16)
  | ok (ok : Bool)
  | prob (p : Byte)
  | cell (c : Cdf16)
  | nibble (nibble : Nibble)
  deriving DecidableEq, Repr

/-- A response of the operation port (R90). -/
structure Response where
  result  : Result
  returns : Returns
  deriving DecidableEq, Repr

/-- The operation port (R90), the model's own fields (log 1): the requests not yet performed, oldest first, and the
response to the last operation performed. -/
structure Port where
  requests : List (List Byte)
  response : Response
  deriving DecidableEq, Repr

/-- ANS1 after `RESET`: the encode-session values (R22, R391). -/
def Ans1.initial : Ans1 where
  r := 2147483648
  cursor := 65536
  count := 0
  phase := .needHdr
  len := 0
  buf := []
  mem := []

/-- ANS2 after `RESET`: the encode-session values (R23, R24, R391). -/
def Ans2.initial : Ans2 where
  stateA := 2147483648
  stateB := 2147483648
  symCount := 0
  bootNeed := 0
  pullNeed := 0
  pullAcc := 0
  symbuf := []

/-- The nibble-tree registers after `RESET` (R26). -/
def BitTree.initial : BitTree where
  active := false
  k := 3
  loSym := 0
  lo := 0
  hi := 0
  nib := 0

/-- The queues after `RESET`: both empty, contents 0 (R44). -/
def Queues.initial : Queues where
  inMem := []
  inRd := 0
  inWr := 0
  outMem := []
  outLo := 65536

/-- The model memories after `RESET`: every cell at its default (R44). -/
def Model.initial : Model where
  priors := []
  cdf2s := []
  mix := defaultCdf

/-- The bookkeeping registers after `RESET` (R30, R391). -/
def Context.initial : Context where
  distanceLru := #v[4, 11, 15, 16]
  cmapLru := #v[0, 1, 2, 3, 4, 5, 6, 7, 8, 9, 10, 11, 12]
  btypeLit := 0
  btypeCmd := 0
  btypeDist := 0
  lastCmd := 0
  hist := Vector.replicate 8 0
  predMode := 0
  speedStride := 4
  speedCm := 4
  litCmapLen := 0
  distCmapLen := 0
  weights := Vector.replicate 32 16384
  eofSeen := false
  litCmap := []
  distCmap := []

/-- The sequencing registers after `RESET` (R40, R42). -/
def Codec.initial : Codec where
  top := .topBegin
  substate := .begin
  cmd := Command.blank 0

/-- The control registers after `RESET`: `CFG = 0x06` (R34, R35, R36, R25). -/
def Control.initial : Control where
  cfg := 0x06
  result := .success
  failed := false
  cfgLocked := false
  errcode := 0
  encFinished := false

/-- The operation port with nothing waiting (log 1). -/
def Port.initial : Port where
  requests := []
  response := ⟨.success, .nothing⟩

end Sys2Proof.Machine
end

