-- ==== Sys2Proof/Machine/State.lean ====
section
/-! DEFINITION. The state of the CORE (R20), the reasons a step can stop, and the state after `RESET`. -/

namespace Sys2Proof.Machine

/-- The whole state of the CORE (R20), one field per component of R2 plus the control registers, and the
operation port. -/
structure State where
  ctl    : Control
  codec  : Codec
  ctx    : Context
  model  : Model
  bt     : BitTree
  ans1   : Ans1
  ans2   : Ans2
  queues : Queues
  port   : Port
  deriving DecidableEq, Repr

/-- The reasons the model's machine can stop with a fault. The spec's own faults are none of these: the result
`Failure` is state (R372). -/
inductive Fault where
  /-- Raised by the loop of `ENCODE_CMD` and `DECODE_CMD` when it has run more steps than any command has. No
  state reaches it; it only makes the loop's definition total. Safe (log 11). -/
  | codecStepBound
  deriving DecidableEq, Repr

/-- The reasons the model can have no meaning for an instruction. -/
inductive Refusal where
  /-- Raised by `exec` for an instruction that has no meaning yet, by its mnemonic. Safe. -/
  | notModelled (mnemonic : String)
  /-- Raised by the meaning of a coded-nibble row in a state whose codec step does not read that row's table: no
  operation of the CORE can bring that nibble there. Safe (log 2). -/
  | nibbleOutOfPlace
  deriving DecidableEq, Repr

/-- The state right after `RESET` (R340, R391), with nothing waiting on the operation port. -/
def State.reset : State where
  ctl := Control.initial
  codec := Codec.initial
  ctx := Context.initial
  model := Model.initial
  bt := BitTree.initial
  ans1 := Ans1.initial
  ans2 := Ans2.initial
  queues := Queues.initial
  port := Port.initial

end Sys2Proof.Machine
end

