-- ==== Sys2Proof/Machine/Flags.lean ====
section
/-! DEFINITION. The fields of `CFG` (R34), the codes of results and causes (R360, R361) and the computation of
`STATUS` (R35, R343). The CORE has no arithmetic condition codes (R37). -/

namespace Sys2Proof.Machine

/-- `CFG.MODE = DECODE` (R34, bit 0). -/
def State.isDecode (s : State) : Bool := s.ctl.cfg.getLsbD 0

/-- `CFG.ENGINE = ANS2` (R34, bit 1). -/
def State.engineAns2 (s : State) : Bool := s.ctl.cfg.getLsbD 1

/-- `CFG.NIBBLE_MODE = DIRECT16` (R34, bit 2). -/
def State.direct16 (s : State) : Bool := s.ctl.cfg.getLsbD 2

/-- `CFG.COPY_REPEAT_ESC` (R34, bit 4). -/
def State.copyRepeatEsc (s : State) : Bool := s.ctl.cfg.getLsbD 4

/-- `CFG.STRIDE_M1` (R34, bits 7:5). -/
def State.strideM1 (s : State) : BitVec 3 := s.ctl.cfg.extractLsb' 5 3

/-- The value of a result in `STATUS.RESULT` and in a response (R360). -/
def Result.code : Result → BitVec 2
  | .success => 0
  | .needsMoreInput => 1
  | .needsMoreOutput => 2
  | .failure => 3

/-- The value of a cause in `ERRCODE` (R361). -/
def Cause.code : Cause → BitVec 8
  | .malformedCommandType => 1
  | .distanceOutOfRange => 2
  | .contextMapIndexOutOfRange => 3
  | .predictionModeOutOfRange => 4
  | .reservedNibbleCode => 6
  | .zeroFrequency => 7
  | .illegalConfiguration => 8
  | .protocolViolation => 9
  | .lengthOutOfRange => 10
  | .malformedChunk => 11
  | .invalidOffset => 12

/-- `STATUS.BYTES_NEEDED`, computed when `STATUS` is read (R343). -/
def State.bytesNeeded (s : State) : Bool :=
  s.isDecode &&
    (if s.engineAns2 then decide (s.ans2.bootNeed ≠ 0) || decide (s.ans2.pullNeed ≠ 0)
     else decide (s.ans1.phase ≠ .run))

/-- The 8-bit word `STATUS`, most significant bit first: `BT_ACTIVE`, `BYTES_NEEDED`, `ENC_FINISHED`,
`CFG_LOCKED`, `EOF_SEEN`, `FAILED`, `RESULT` (R35). -/
def State.status (s : State) : BitVec 8 :=
  BitVec.ofBool s.bt.active ++ BitVec.ofBool s.bytesNeeded ++ BitVec.ofBool s.ctl.encFinished ++
    BitVec.ofBool s.ctl.cfgLocked ++ BitVec.ofBool s.ctx.eofSeen ++ BitVec.ofBool s.ctl.failed ++
    s.ctl.result.code

end Sys2Proof.Machine
end

