-- ==== Sys2Proof/Machine/Ops.lean ====
section
/-! DEFINITION. The shared operations: the failure entry (R372), how an operation ends (R90, R91), when it is legal
(R348, R349, R363), the byte-queue transfers (R121, R122, R124, R125) and the move-to-front update (R74). -/

namespace Sys2Proof.Machine

/-! ### Taking a failure, and answering -/

/-- Failure entry (R372): the first cause of the session stays in `ERRCODE`. The response is `Failure` (R360). There
is no return from it but `RESET` (R364). -/
def State.failEntry (c : Cause) (s : State) : State :=
  { s with
    ctl := { s.ctl with
      errcode := if s.ctl.failed then s.ctl.errcode else c.code
      failed := true
      result := .failure }
    port := { s.port with response := ⟨.failure, .nothing⟩ } }

/-- What every operation but `RESET` and `GET_STATUS` does in a failed session (R372). -/
def State.refuseFailed (s : State) : State :=
  { s with
    ctl := { s.ctl with result := .failure }
    port := { s.port with response := ⟨.failure, .nothing⟩ } }

/-- End an operation with result `r`: latch it in `STATUS.RESULT` and respond (R90, R91). -/
def State.answer (r : Result) (ret : Returns) (s : State) : State :=
  { s with
    ctl := { s.ctl with result := r }
    port := { s.port with response := ⟨r, ret⟩ } }

/-- Set `STATUS.CFG_LOCKED` (R349). -/
def State.lock (s : State) : State := { s with ctl := { s.ctl with cfgLocked := true } }

/-- The two suspensions (R365). -/
inductive Wait where
  | input
  | output
  deriving DecidableEq, Repr

/-- The result of a suspension (R360). -/
def Wait.result : Wait → Result
  | .input => .needsMoreInput
  | .output => .needsMoreOutput

/-- How a piece of an operation ends: with a value, suspended, or with the failure entry already made. -/
inductive Reply (α : Type) where
  | ok (a : α) (s : State)
  | wait (w : Wait) (s : State)
  | fail (s : State)
  | refused (r : Refusal)
  | fault (f : Fault)

/-- `fail Cause` in the spec's pseudocode (R13, R372). -/
def raise {α : Type} (c : Cause) (s : State) : Reply α := .fail (s.failEntry c)

/-- Go on with `k` after a piece that ended with a value; every other end stays. -/
def Reply.bind {α β : Type} (x : Reply α) (k : α → State → Reply β) : Reply β :=
  match x with
  | .ok a s => k a s
  | .wait w s => .wait w s
  | .fail s => .fail s
  | .refused r => .refused r
  | .fault f => .fault f

/-- Replace the value of a piece that ended with one. -/
def Reply.map {α β : Type} (f : α → β) (x : Reply α) : Reply β := x.bind fun a s => .ok (f a) s

/-- The outcome of an operation whose body has ended. -/
def Reply.outcome (x : Reply Returns) : Host.Outcome State Fault Refusal :=
  match x with
  | .ok ret s => .next (s.answer .success ret)
  | .wait w s => .next (s.answer w.result .nothing)
  | .fail s => .next s
  | .refused r => .refused r
  | .fault f => .fault f

/-! ### Legality -/

/-- In which kind of session an operation is legal (R348). -/
inductive Legal where
  | always
  | encode
  | decode
  deriving DecidableEq, Repr

/-- Whether an operation of that legality may run in this session (R348). -/
def Legal.allows : Legal → State → Bool
  | .always, _ => true
  | .encode, s => !s.isDecode
  | .decode, s => s.isDecode

/-- Run an operation in the order of R363: a failed session answers `Failure`; an operation not legal in the session
mode fails and changes nothing else; a locking operation sets `CFG_LOCKED` (R349) and then does `body`. -/
def runOp (legal : Legal) (locking : Bool) (body : State → Reply Returns) (s : State) :
    Host.Outcome State Fault Refusal :=
  if s.ctl.failed then .next s.refuseFailed
  else if legal.allows s then (body (if locking then s.lock else s)).outcome
  else .next (s.failEntry .protocolViolation)

/-! ### Byte queues -/

/-- `pop_avail(q)` (R121, R122). -/
def Queues.popAvail (qs : Queues) : Queue → Nat
  | .input => (qs.inWr.toNat + Config.inSlots - qs.inRd.toNat) % Config.inSlots
  | .output => Config.outSize - qs.outLo.toNat

/-- `push_avail(q)` (R121, R122). -/
def Queues.pushAvail (qs : Queues) : Queue → Nat
  | .input => (qs.inRd.toNat + Config.inSlots - qs.inWr.toNat - 1) % Config.inSlots
  | .output => qs.outLo.toNat

/-- Write bytes into the ring from slot `i` on, wrapping (R124). -/
def ringWrite (m : Memory Byte) (i : Nat) : List Byte → Memory Byte
  | [] => m
  | b :: bs => ringWrite (Memory.write 0 m (i % Config.inSlots) b) (i + 1) bs

/-- Read `n` bytes of the ring from slot `i` on, wrapping (R125). -/
def ringRead (m : Memory Byte) (i : Nat) : Nat → List Byte
  | 0 => []
  | n + 1 => Memory.read 0 m (i % Config.inSlots) :: ringRead m (i + 1) n

/-- `n` of R124: how many bytes of `src` the queue takes. -/
def Queues.pushCount (qs : Queues) (q : Queue) (src : List Byte) : Nat := min src.length (qs.pushAvail q)

/-- `QPush(q, src)` (R124): the first `pushCount` bytes of `src` go in. -/
def Queues.push (qs : Queues) (q : Queue) (src : List Byte) : Queues :=
  let n := qs.pushCount q src
  match q with
  | .input =>
    { qs with
      inMem := ringWrite qs.inMem qs.inWr.toNat (src.take n)
      inWr := BitVec.ofNat 17 ((qs.inWr.toNat + n) % Config.inSlots) }
  | .output =>
    { qs with
      outMem := Memory.writeList 0 qs.outMem (qs.outLo.toNat - n) (src.take n)
      outLo := BitVec.ofNat 17 (qs.outLo.toNat - n) }

/-- `n` of R125: how many bytes a pop of `len` takes out. -/
def Queues.popCount (qs : Queues) (q : Queue) (len : Nat) : Nat := min len (qs.popAvail q)

/-- The bytes a pop of `len` returns (R125). -/
def Queues.popBytes (qs : Queues) (q : Queue) (len : Nat) : List Byte :=
  match q with
  | .input => ringRead qs.inMem qs.inRd.toNat (qs.popCount q len)
  | .output => Memory.readList 0 qs.outMem qs.outLo.toNat (qs.popCount q len)

/-- `QPop(q, len)` (R125): the queue after the pop; slot contents stay. -/
def Queues.pop (qs : Queues) (q : Queue) (len : Nat) : Queues :=
  match q with
  | .input => { qs with inRd := BitVec.ofNat 17 ((qs.inRd.toNat + qs.popCount q len) % Config.inSlots) }
  | .output => { qs with outLo := BitVec.ofNat 17 (qs.outLo.toNat + qs.popCount q len) }

/-- `QPush` on the queues of the state. -/
def State.push (q : Queue) (src : List Byte) (s : State) : State := { s with queues := s.queues.push q src }

/-- `QPop` on the queues of the state; the bytes are `s.queues.popBytes q len`. -/
def State.pop (q : Queue) (len : Nat) (s : State) : State := { s with queues := s.queues.pop q len }

/-! ### Searching and the LRU arrays -/

/-- The least `i < n` with `p i`, or `n` when there is none. -/
def leastIndex (n : Nat) (p : Nat → Bool) : Nat := ((List.range n).find? p).getD n

/-- `Touch(lru, v)`, the move-to-front update (R74). -/
def touch {α : Type} [DecidableEq α] {n : Nat} (lru : Vector α n) (v : α) : Vector α n :=
  let j := leastIndex (n - 1) fun i => decide (lru[i]? = some v)
  Vector.ofFn fun t => if t.val = 0 then v else if t.val ≤ j then (lru[t.val - 1]?).getD v else lru[t]

end Sys2Proof.Machine
end

