-- ==== Sys2Proof/Machine/Operands.lean ====
section
/-! DEFINITION. The operand forms of the operations: a CDF16 cell address (R90), a `CDF2S` index, a priors address by
category (R70, R71), a probability of false as an ANS1 table (R140) or an ANS2 interval (R183), and a speed (R209). -/

namespace Sys2Proof.Machine

/-! ### Cells -/

/-- `PRIORS[a]` (R44). -/
def State.prior (s : State) (a : Nat) : Cdf16 := Memory.read defaultCdf s.model.priors a

/-- Write `PRIORS[a]`. -/
def State.setPrior (a : Nat) (c : Cdf16) (s : State) : State :=
  { s with model := { s.model with priors := Memory.write defaultCdf s.model.priors a c } }

/-- Write `MIX`. -/
def State.setMix (c : Cdf16) (s : State) : State := { s with model := { s.model with mix := c } }

/-- The cell an operand `a` addresses: `PRIORS[a]` for `0..41886`, `MIX` for 41887, none above (R90). -/
def State.cell? (s : State) (a : BitVec 16) : Option Cdf16 :=
  if a.toNat < Config.numPriors then some (s.prior a.toNat)
  else if a.toNat = Config.numPriors then some s.model.mix
  else none

/-- Write the cell an operand `a` addresses. -/
def State.setCell (a : BitVec 16) (c : Cdf16) (s : State) : State :=
  if a.toNat < Config.numPriors then s.setPrior a.toNat c else s.setMix c

/-- Go on with the addressed cell; an address that is no cell's fails (R90). -/
def withCell {α : Type} (a : BitVec 16) (s : State) (k : Cdf16 → Reply α) : Reply α :=
  match s.cell? a with
  | some c => k c
  | none => raise .protocolViolation s

/-- `CDF2S[a2]` (R224). -/
def State.cdf2 (s : State) (a2 : Nibble) : Cdf2 := Memory.read defaultCdf2 s.model.cdf2s a2.toNat

/-- Write `CDF2S[a2]`. -/
def State.setCdf2 (a2 : Nibble) (c : Cdf2) (s : State) : State :=
  { s with model := { s.model with cdf2s := Memory.write defaultCdf2 s.model.cdf2s a2.toNat c } }

/-! ### The priors arena -/

/-- `Prior(CMD_TYPE, btype_cmd, last_cmd)` (R70, R71). -/
def priorCmdType (btype last : Nat) : Nat := 0 + (btype * 16 + last)

/-- `Prior(COPY_COUNT, btype_cmd, pos)`. -/
def priorCopyCount (btype pos : Nat) : Nat := 4096 + (btype * 12 + pos)

/-- `Prior(DISTANCE, slot, dpos)`. -/
def priorDistance (slot dpos : Nat) : Nat := 7168 + (slot * 10 + dpos)

/-- `Prior(LIT_COUNT, btype_lit, pos)`. -/
def priorLitCount (btype pos : Nat) : Nat := 9728 + (btype * 12 + pos)

/-- `Prior(LIT_HE, btype_lit)`. -/
def priorLitHe (btype : Nat) : Nat := 12800 + btype

/-- `Prior(LIT_STRIDE, stride byte, ni, hctx)`. -/
def priorLitStride (sb ni hctx : Nat) : Nat := 13056 + ((sb * 2 + ni) * 16 + hctx)

/-- `Prior(LIT_CM, slot, ni, hctx)`. -/
def priorLitCm (slot ni hctx : Nat) : Nat := 21248 + ((slot * 2 + ni) * 16 + hctx)

/-- `Prior(DICT, btype_cmd, f, pos)`. -/
def priorDict (btype f pos : Nat) : Nat := 29440 + ((btype * 4 + f) * 12 + pos)

/-- `Prior(BLOCK_SWITCH, kind, half, hi)`. -/
def priorBlockSwitch (kix half hi : Nat) : Nat := 41728 + ((kix * 2 + half) * 16 + hi)

/-- `Prior(PRED_MODE, which)`. -/
def priorPredMode (which : Nat) : Nat := 41824 + which

/-- `Prior(CMAP_COUNT, mi, pos)`. -/
def priorCmapCount (mi pos : Nat) : Nat := 41827 + (mi * 12 + pos)

/-- `Prior(CMAP_ENTRY, mi, which)`. -/
def priorCmapEntry (mi which : Nat) : Nat := 41851 + (mi * 18 + which)

/-! ### Probabilities and speeds -/

/-- `Clamp8(v)` (R96). -/
def clamp8 (v : Nat) : Byte := if v < 1 then 1 else if 255 < v then 255 else BitVec.ofNat 8 v

/-- `ls[bit]` of the ANS1 table of `p` (R140). -/
def ansLs (bit : Bool) (p : Byte) : Nat := if bit then 256 - p.toNat else p.toNat

/-- `bs[bit]` of the ANS1 table of `p` (R140). -/
def ansBs (bit : Bool) (p : Byte) : Nat := if bit then p.toNat else 0

/-- The start of the ANS2 interval of a bit (R183). -/
def bitStart (bit : Bool) (p : Byte) : BitVec 16 := if bit then BitVec.ofNat 16 (p.toNat * 128) else 0

/-- The frequency of the ANS2 interval of a bit (R183). -/
def bitFreq (bit : Bool) (p : Byte) : BitVec 16 :=
  if bit then BitVec.ofNat 16 ((256 - p.toNat) * 128) else BitVec.ofNat 16 (p.toNat * 128)

/-- `SPEED_INC[speed]` (R209). -/
def speedInc (speed : BitVec 3) : Nat := ([2, 4, 16, 32, 48, 96, 128, 384][speed.toNat]?).getD 0

/-- `SLOW` (R209). -/
abbrev speedSlow : BitVec 3 := 3

/-- `MED` (R209). -/
abbrev speedMed : BitVec 3 := 4

/-- `FAST` (R209). -/
abbrev speedFast : BitVec 3 := 5

end Sys2Proof.Machine
end

