-- ==== Sys2Proof/Machine/Ans1.lean ====
section
/-! DEFINITION. ANS1, the binary rANS coder (R140 to R155): its steps, the chunk layer, and its twelve operations. -/

namespace Sys2Proof.Machine

/-! ### Steps of the coder -/

/-- The encoder's state update for one bit (R141). -/
def ansUpdate (bit : Bool) (p : Byte) (r : Nat) : Nat :=
  r / ansLs bit p * 256 + ansBs bit p + r % ansLs bit p

/-- `x_max` of R141. -/
def ansXMax (bit : Bool) (p : Byte) : Nat := 2 ^ 55 * ansLs bit p

/-- Write bytes downward in `B1MEM`: move the cursor down by their number and put them there (R141, R143). -/
def Ans1.emit (bs : List Byte) (a : Ans1) : Ans1 :=
  { a with
    cursor := BitVec.ofNat 32 (a.cursor.toNat - bs.length)
    mem := Memory.writeList 0 a.mem (a.cursor.toNat - bs.length) bs }

/-- `B_ENCODE_INIT` on the registers (R142). -/
def Ans1.encodeInit (a : Ans1) : Ans1 := { a with r := BitVec.ofNat 64 Config.ansL, cursor := 65536 }

/-- `B_ENCODE` (R141); `p = 0` fails (R140). -/
def ansEncode (bit : Bool) (p : Byte) (s : State) : Reply Unit :=
  if p = 0 then raise .protocolViolation s
  else if ansXMax bit p ≤ s.ans1.r.toNat then
    if s.ans1.cursor.toNat < 4 then raise .protocolViolation s
    else
      .ok () { s with ans1 := { s.ans1.emit (beBytes 4 (s.ans1.r.toNat % 2 ^ 32)) with
        r := BitVec.ofNat 64 (ansUpdate bit p (s.ans1.r.toNat / 2 ^ 32)) } }
  else .ok () { s with ans1 := { s.ans1 with r := BitVec.ofNat 64 (ansUpdate bit p s.ans1.r.toNat) } }

/-- `B_ENCODE_FLUSH` (R143). -/
def ansFlush (s : State) : Reply Unit :=
  if s.ans1.cursor.toNat < 8 then raise .protocolViolation s
  else .ok () { s with ans1 := s.ans1.emit (beBytes 8 s.ans1.r.toNat) }

/-- `B_DECODE_INIT` on the registers (R147). -/
def Ans1.decodeInit (a : Ans1) : Ans1 :=
  { a with r := BitVec.ofNat 64 (fromBE (Memory.readList 0 a.mem 0 8)), cursor := 8 }

/-- The bit `B_DECODE` chooses (R144). -/
def ansBit (p : Byte) (r : Nat) : Bool := decide (p.toNat ≤ r % 256)

/-- `x1` of `B_DECODE` (R144). -/
def ansX1 (p : Byte) (r : Nat) : Nat :=
  ansLs (ansBit p r) p * (r / 256) + r % 256 - ansBs (ansBit p r) p

/-- `B_DECODE_ADVANCE(x1)` with the limit of its caller (R146). -/
def ansAdvance (limit x1 : Nat) (s : State) : Reply Unit :=
  if x1 < Config.ansL then
    if limit < s.ans1.cursor.toNat + 4 then raise .malformedChunk s
    else
      .ok () { s with ans1 := { s.ans1 with
        r := BitVec.ofNat 64 (x1 * 2 ^ 32 + fromBE (Memory.readList 0 s.ans1.mem s.ans1.cursor.toNat 4))
        cursor := BitVec.ofNat 32 (s.ans1.cursor.toNat + 4) } }
  else .ok () { s with ans1 := { s.ans1 with r := BitVec.ofNat 64 x1 } }

/-! ### The chunk layer -/

/-- The loop of R152: encode the `n` lowest cells of `B1BUF`, last first. -/
def chunkEncode : Nat → State → Reply Unit
  | 0, s => .ok () s
  | n + 1, s =>
    let cell := Memory.read BitCell.zero s.ans1.buf n
    (ansEncode cell.bit cell.p s).bind fun _ s => chunkEncode n s

/-- The procedure of R152: `B_ENCODE_INIT`, the bits last first, `B_ENCODE_FLUSH`. -/
def chunkCode (s : State) : Reply Unit :=
  (chunkEncode s.ans1.count.toNat { s with ans1 := s.ans1.encodeInit }).bind fun _ s => ansFlush s

/-- The payload R152 leaves: `B1MEM[b1_cursor .. 65536)`. -/
def Ans1.payload (a : Ans1) : List Byte :=
  Memory.readList 0 a.mem a.cursor.toNat (Config.b1memSize - a.cursor.toNat)

/-- `B_CHUNK_FLUSH` (R153): the payload is pushed before its length. -/
def chunkFlush (s : State) : Reply Unit :=
  if s.ans1.count = 0 then .ok () s
  else if s.queues.popAvail .output ≠ 0 then .wait .output s
  else
    (chunkCode s).bind fun _ s =>
      let payload := s.ans1.payload
      let s := (s.push .output payload).push .output (beBytes 2 payload.length)
      .ok () { s with ans1 := { s.ans1 with count := 0 } }

/-- Store a bit in `B1BUF` (R151). -/
def Ans1.bufferBit (bit : Bool) (p : Byte) (a : Ans1) : Ans1 :=
  { a with
    buf := Memory.write BitCell.zero a.buf a.count.toNat ⟨bit, p⟩
    count := a.count + 1 }

/-- `B_CHUNK_PUT_BIT` (R151): a full buffer is flushed first. -/
def chunkPutBit (bit : Bool) (p : Byte) (s : State) : Reply Unit :=
  if p = 0 then raise .protocolViolation s
  else if s.ctl.encFinished then raise .protocolViolation s
  else
    (if s.ans1.count.toNat = Config.chunkSyms then chunkFlush s else .ok () s).bind fun _ s =>
      .ok () { s with ans1 := s.ans1.bufferBit bit p }

/-- The `NEED_HDR` part of R154. -/
def chunkHeader (s : State) : Reply Unit :=
  if s.ans1.phase ≠ .needHdr then .ok () s
  else if s.queues.popAvail .input < 2 then .wait .input s
  else
    let len := fromBE (s.queues.popBytes .input 2)
    let s := s.pop .input 2
    if len < 8 ∨ len % 4 ≠ 0 then raise .malformedChunk s
    else .ok () { s with ans1 := { s.ans1 with len := BitVec.ofNat 16 len, phase := .needPayload } }

/-- The `NEED_PAYLOAD` part of R154. -/
def chunkPayload (s : State) : Reply Unit :=
  if s.ans1.phase ≠ .needPayload then .ok () s
  else if s.queues.popAvail .input < s.ans1.len.toNat then .wait .input s
  else
    let payload := s.queues.popBytes .input s.ans1.len.toNat
    let s := s.pop .input s.ans1.len.toNat
    let a := { s.ans1 with mem := Memory.writeList 0 s.ans1.mem 0 payload }
    .ok () { s with ans1 := { a.decodeInit with phase := .run } }

/-- The loop of R154. A pass that goes on to another has taken at least 10 bytes from `IN` (a chunk with no bit), so
`popAvail + 2` passes are enough; with no pass left `IN` is empty and the header is missing. -/
def chunkGetLoop (p : Byte) : Nat → State → Reply Bool
  | 0, s => .wait .input s
  | n + 1, s =>
    (chunkHeader s).bind fun _ s => (chunkPayload s).bind fun _ s =>
      if s.ans1.cursor.toNat = s.ans1.len.toNat ∧ s.ans1.r.toNat = Config.ansL then
        chunkGetLoop p n { s with ans1 := { s.ans1 with phase := .needHdr } }
      else
        let bit := ansBit p s.ans1.r.toNat
        (ansAdvance s.ans1.len.toNat (ansX1 p s.ans1.r.toNat) s).map fun _ => bit

/-- `B_CHUNK_GET_BIT` (R154). -/
def chunkGetBit (p : Byte) (s : State) : Reply Bool :=
  if p = 0 then raise .protocolViolation s
  else chunkGetLoop p (s.queues.popAvail .input + 2) s

/-! ### The operations -/

/-- `B_ENCODE_INIT()` (R142). -/
def execBEncodeInit (s : State) : Host.Outcome State Fault Refusal :=
  runOp .always true (fun s => .ok .nothing { s with ans1 := s.ans1.encodeInit }) s

/-- `B_ENCODE(bit, p)` (R141). -/
def execBEncode (bit : Bool) (p : Byte) (s : State) : Host.Outcome State Fault Refusal :=
  runOp .always true (fun s => (ansEncode bit p s).map fun _ => .nothing) s

/-- `B_ENCODE_FLUSH()` (R143). -/
def execBEncodeFlush (s : State) : Host.Outcome State Fault Refusal :=
  runOp .always true (fun s => (ansFlush s).map fun _ => .nothing) s

/-- `B_DECODE_INIT()` (R147). -/
def execBDecodeInit (s : State) : Host.Outcome State Fault Refusal :=
  runOp .always true (fun s => .ok .nothing { s with ans1 := s.ans1.decodeInit }) s

/-- `B_DECODE(p)` (R144). -/
def execBDecode (p : Byte) (s : State) : Host.Outcome State Fault Refusal :=
  runOp .always true
    (fun s =>
      if p = 0 then raise .protocolViolation s
      else .ok (.x1Bit (BitVec.ofNat 64 (ansX1 p s.ans1.r.toNat)) (ansBit p s.ans1.r.toNat)) s) s

/-- `B_DECODE_WILL_ADVANCE(x1)` (R145). -/
def execBDecodeWillAdvance (x1 : BitVec 64) (s : State) : Host.Outcome State Fault Refusal :=
  runOp .always true (fun s => .ok (.adv (decide (x1.toNat < Config.ansL))) s) s

/-- `B_DECODE_ADVANCE(x1)` (R146): issued by the host, the limit is 65536. -/
def execBDecodeAdvance (x1 : BitVec 64) (s : State) : Host.Outcome State Fault Refusal :=
  runOp .always true (fun s => (ansAdvance Config.b1memSize x1.toNat s).map fun _ => .nothing) s

/-- `B_CHUNK_PUT_BIT(bit, p)` (R151). -/
def execBChunkPutBit (bit : Bool) (p : Byte) (s : State) : Host.Outcome State Fault Refusal :=
  runOp .encode true (fun s => (chunkPutBit bit p s).map fun _ => .nothing) s

/-- `B_CHUNK_FLUSH()` (R153). -/
def execBChunkFlush (s : State) : Host.Outcome State Fault Refusal :=
  runOp .encode true (fun s => (chunkFlush s).map fun _ => .nothing) s

/-- `B_CHUNK_GET_BIT(p)` (R154). -/
def execBChunkGetBit (p : Byte) (s : State) : Host.Outcome State Fault Refusal :=
  runOp .decode true (fun s => (chunkGetBit p s).map .bit) s

/-- `B1MEM_WRITE(addr, byte)` (R148). -/
def execB1memWrite (addr : BitVec 16) (byte : Byte) (s : State) : Host.Outcome State Fault Refusal :=
  runOp .always true
    (fun s =>
      .ok .nothing { s with ans1 := { s.ans1 with mem := Memory.write 0 s.ans1.mem addr.toNat byte } }) s

/-- `B1MEM_READ(addr)` (R148). -/
def execB1memRead (addr : BitVec 16) (s : State) : Host.Outcome State Fault Refusal :=
  runOp .always true (fun s => .ok (.byte (Memory.read 0 s.ans1.mem addr.toNat)) s) s

end Sys2Proof.Machine
end

