-- ==== Sys2Proof/Machine/Ans2.lean ====
section
/-! DEFINITION. ANS2, the dual-state nibble rANS coder (R170 to R185): its steps and its seven operations. -/

namespace Sys2Proof.Machine

/-! ### Encoder -/

/-- The encoder's state update for one symbol (R172). -/
def symUpdate (start freq x : Nat) : Nat := x / freq * 32768 + x % freq + start

/-- `rescale_lim` of R172. -/
def rescaleLim (freq : Nat) : Nat := 2 ^ 48 * freq

/-- The state of stream `k` (R172). -/
def Ans2.stream (a : Ans2) (k : Bool) : BitVec 64 := if k then a.stateB else a.stateA

/-- Write the state of stream `k` (R172). -/
def Ans2.setStream (k : Bool) (x : BitVec 64) (a : Ans2) : Ans2 :=
  if k then { a with stateB := x } else { a with stateA := x }

/-- `reverse_put_sym(k, start, freq)` (R172). -/
def reversePutSym (k : Bool) (start freq : Nat) (s : State) : State :=
  let x := (s.ans2.stream k).toNat
  if rescaleLim freq ≤ x then
    let s := s.push .output (leBytes 4 (x % 2 ^ 32))
    { s with ans2 := s.ans2.setStream k (BitVec.ofNat 64 (symUpdate start freq (x / 2 ^ 32))) }
  else { s with ans2 := s.ans2.setStream k (BitVec.ofNat 64 (symUpdate start freq x)) }

/-- The loop of R173: code the `n` lowest cells of `SYMBUF`, last first, symbol `i` into stream `i mod 2`. -/
def flushSyms : Nat → State → State
  | 0, s => s
  | n + 1, s =>
    let cell := Memory.read SymCell.zero s.ans2.symbuf n
    flushSyms n (reversePutSym (n % 2 = 1) cell.start.toNat cell.freq.toNat s)

/-- Both states at `ENC_START_STATE` (R173). -/
def Ans2.startStates (a : Ans2) : Ans2 :=
  { a with stateA := BitVec.ofNat 64 Config.normInterval, stateB := BitVec.ofNat 64 Config.normInterval }

/-- `N_FLUSH_CHUNK` (R173). With nothing buffered nothing happens (log 6). -/
def symFlush (s : State) : Reply Unit :=
  let n := s.ans2.symCount.toNat
  if n = 0 then .ok () s
  else if s.queues.popAvail .output ≠ 0 then .wait .output s
  else
    let s := flushSyms n { s with ans2 := s.ans2.startStates }
    let s := (s.push .output (leBytes 8 s.ans2.stateB.toNat)).push .output (leBytes 8 s.ans2.stateA.toNat)
    .ok () { s with
      ctl := { s.ctl with encFinished := s.ctl.encFinished || decide (n < Config.batchSyms) }
      ans2 := { s.ans2 with symCount := 0 } }

/-- Store a symbol in `SYMBUF` (R171). -/
def Ans2.bufferSym (start freq : BitVec 16) (a : Ans2) : Ans2 :=
  { a with
    symbuf := Memory.write SymCell.zero a.symbuf a.symCount.toNat ⟨start, freq⟩
    symCount := a.symCount + 1 }

/-- `N_ENC_PUT` (R171): a full buffer is flushed first. -/
def symPut (start freq : BitVec 16) (s : State) : Reply Unit :=
  if s.ctl.encFinished then raise .protocolViolation s
  else if freq = 0 then raise .zeroFrequency s
  else if 32768 < start.toNat + freq.toNat then raise .protocolViolation s
  else
    (if s.ans2.symCount.toNat = Config.batchSyms then symFlush s else .ok () s).bind fun _ s =>
      .ok () { s with ans2 := s.ans2.bufferSym start freq }

/-- `N_PUT_BIT` (R183). -/
def symPutBit (bit : Bool) (p : Byte) (s : State) : Reply Unit :=
  if p = 0 then raise .protocolViolation s else symPut (bitStart bit p) (bitFreq bit p) s

/-! ### Decoder -/

/-- One byte of the 16-byte state block (R178). -/
def Ans2.bootByte (b : Byte) (a : Ans2) : Ans2 :=
  let j := 16 - a.bootNeed.toNat
  if j < 8 then
    { a with
      stateA := a.stateA ||| BitVec.ofNat 64 (b.toNat * 2 ^ (8 * j))
      bootNeed := a.bootNeed - 1 }
  else
    { a with
      stateB := a.stateB ||| BitVec.ofNat 64 (b.toNat * 2 ^ (8 * (j - 8)))
      bootNeed := a.bootNeed - 1 }

/-- One byte of a pending pull; the last one completes `state_b` (R178). -/
def Ans2.pullByte (b : Byte) (a : Ans2) : Ans2 :=
  let acc := a.pullAcc ||| BitVec.ofNat 32 (b.toNat * 2 ^ (8 * (4 - a.pullNeed.toNat)))
  if a.pullNeed = 1 then
    { a with
      stateB := BitVec.ofNat 64 (a.stateB.toNat * 2 ^ 32 + acc.toNat)
      pullAcc := 0
      pullNeed := 0 }
  else { a with pullAcc := acc, pullNeed := a.pullNeed - 1 }

/-- One pass of the loop of R178, for a byte taken from `IN`. -/
def Ans2.takeByte (b : Byte) (a : Ans2) : Ans2 := if a.bootNeed ≠ 0 then a.bootByte b else a.pullByte b

/-- How many bytes `N_DEC_FILL` still takes. -/
def Ans2.bytesWanted (a : Ans2) : Nat := a.bootNeed.toNat + a.pullNeed.toNat

/-- The loop of `N_DEC_FILL` for the `n` bytes still wanted (R178). -/
def fillLoop : Nat → State → Reply Unit
  | 0, s => .ok () s
  | n + 1, s =>
    if s.queues.popAvail .input = 0 then .wait .input s
    else
      let b := ((s.queues.popBytes .input 1).head?).getD 0
      let s := s.pop .input 1
      fillLoop n { s with ans2 := s.ans2.takeByte b }

/-- `N_DEC_FILL` (R178). -/
def symFill (s : State) : Reply Unit := fillLoop s.ans2.bytesWanted s

/-- The cdf offset, `state_a & SCALE_MASK` (R179). -/
def Ans2.offset (a : Ans2) : Nat := a.stateA.toNat % 32768

/-- `N_DEC_GET_OFFSET` (R179). -/
def symOffset (s : State) : Reply Nat := (symFill s).bind fun _ s => .ok s.ans2.offset s

/-- `x` of R180. -/
def symX (start freq stateA : Nat) : Nat := freq * (stateA / 32768) + stateA % 32768 - start

/-- The register changes of `N_DEC_ADVANCE_SYM` (R180). -/
def Ans2.advance (start freq : Nat) (a : Ans2) : Ans2 :=
  if a.symCount.toNat + 1 = Config.batchSyms then
    { a with symCount := 0, stateA := 0, stateB := 0, bootNeed := 16, pullNeed := 0 }
  else
    let x := symX start freq a.stateA.toNat
    { a with
      symCount := a.symCount + 1
      stateA := a.stateB
      stateB := BitVec.ofNat 64 x
      pullNeed := if x < Config.normInterval then 4 else a.pullNeed }

/-- `N_DEC_ADVANCE_SYM` (R180). -/
def symAdvance (start freq : BitVec 16) (s : State) : Reply Unit :=
  if s.ans2.bootNeed ≠ 0 ∨ s.ans2.pullNeed ≠ 0 then raise .protocolViolation s
  else if freq = 0 then raise .zeroFrequency s
  else if start.toNat ≤ s.ans2.offset ∧ s.ans2.offset < start.toNat + freq.toNat ∧
      start.toNat + freq.toNat ≤ 32768 then
    .ok () { s with ans2 := s.ans2.advance start.toNat freq.toNat }
  else raise .protocolViolation s

/-- `N_GET_BIT` (R184). -/
def symGetBit (p : Byte) (s : State) : Reply Bool :=
  if p = 0 then raise .protocolViolation s
  else
    (symOffset s).bind fun offset s =>
      let bit := decide (p.toNat * 128 ≤ offset)
      (symAdvance (bitStart bit p) (bitFreq bit p) s).map fun _ => bit

/-! ### The operations -/

/-- `N_ENC_PUT(start, freq)` (R171). -/
def execNEncPut (start freq : BitVec 16) (s : State) : Host.Outcome State Fault Refusal :=
  runOp .encode true (fun s => (symPut start freq s).map fun _ => .nothing) s

/-- `N_FLUSH_CHUNK()` (R173). -/
def execNFlushChunk (s : State) : Host.Outcome State Fault Refusal :=
  runOp .encode true (fun s => (symFlush s).map fun _ => .nothing) s

/-- `N_DEC_FILL()` (R178). -/
def execNDecFill (s : State) : Host.Outcome State Fault Refusal :=
  runOp .decode true (fun s => (symFill s).map fun _ => .nothing) s

/-- `N_DEC_GET_OFFSET()` (R179). -/
def execNDecGetOffset (s : State) : Host.Outcome State Fault Refusal :=
  runOp .decode true (fun s => (symOffset s).map fun o => .offset (BitVec.ofNat 16 o)) s

/-- `N_DEC_ADVANCE_SYM(start, freq)` (R180). -/
def execNDecAdvanceSym (start freq : BitVec 16) (s : State) : Host.Outcome State Fault Refusal :=
  runOp .decode true (fun s => (symAdvance start freq s).map fun _ => .nothing) s

/-- `N_PUT_BIT(bit, p)` (R183). -/
def execNPutBit (bit : Bool) (p : Byte) (s : State) : Host.Outcome State Fault Refusal :=
  runOp .encode true (fun s => (symPutBit bit p s).map fun _ => .nothing) s

/-- `N_GET_BIT(p)` (R184). -/
def execNGetBit (p : Byte) (s : State) : Host.Outcome State Fault Refusal :=
  runOp .decode true (fun s => (symGetBit p s).map .bit) s

end Sys2Proof.Machine
end

