-- ==== Sys2Proof/Machine/ByteQueue.lean ====
section
/-! DEFINITION. The ByteQueue operations (R123 to R125). They never fail, are legal on either queue in both kinds of
session (R128, R348) and do not lock the configuration (R349). -/

namespace Sys2Proof.Machine

/-- `BQ_NUM_PUSH_AVAIL(q)` (R123). -/
def execBqNumPushAvail (q : Queue) (s : State) : Host.Outcome State Fault Refusal :=
  runOp .always false (fun s => .ok (.avail (BitVec.ofNat 32 (s.queues.pushAvail q))) s) s

/-- `BQ_NUM_POP_AVAIL(q)` (R123). -/
def execBqNumPopAvail (q : Queue) (s : State) : Host.Outcome State Fault Refusal :=
  runOp .always false (fun s => .ok (.avail (BitVec.ofNat 32 (s.queues.popAvail q))) s) s

/-- `BQ_PUSH_DATA(q, src)` (R124). -/
def execBqPushData (q : Queue) (src : List Byte) (s : State) : Host.Outcome State Fault Refusal :=
  runOp .always false
    (fun s => .ok (.count (BitVec.ofNat 32 (s.queues.pushCount q src))) (s.push q src)) s

/-- `BQ_POP_DATA(q, len)` (R125). -/
def execBqPopData (q : Queue) (len : BitVec 32) (s : State) : Host.Outcome State Fault Refusal :=
  runOp .always false
    (fun s =>
      .ok (.popped (BitVec.ofNat 32 (s.queues.popCount q len.toNat)) (s.queues.popBytes q len.toNat))
        (s.pop q len.toNat)) s

end Sys2Proof.Machine
end

