-- ==== Sys2Proof/Machine/Cdf.lean ====
section
/-! DEFINITION. The adaptive probability model as functions of cells: lookups (R203 to R205), blend (R210), average
(R215), scaling and the two inverse mappings (R217 to R219), valid (R221), and the CDF2 forms (R224 to R228). -/

namespace Sys2Proof.Machine

/-- `cdf(C, i)` (R203). -/
def cdf (cell : Cdf16) (i : Nat) : Nat := ((cell[i]?).getD 0).toNat

/-- `pdf(C, i)` (R204). -/
def pdf (cell : Cdf16) (i : Nat) : Nat := if i = 0 then cdf cell 0 else cdf cell i - cdf cell (i - 1)

/-- `max(C)` (R205). -/
def cdfTotal (cell : Cdf16) : Nat := cdf cell 15

/-- The increment of `blend`: every bucket from `sym` on rises by `inc` (R210). -/
def raiseFrom (cell : Cdf16) (sym inc : Nat) : Cdf16 :=
  Vector.ofFn fun i => if sym ≤ i.val then BitVec.ofNat 16 (cell[i].toNat + inc) else cell[i]

/-- The decay of one bucket in a rescale, `t - (t >> 2)` with `t` the count plus `CDF_BIAS[i]` (R210). -/
def decay (count i : Nat) : Nat := (count + 2 * (i + 1)) - (count + 2 * (i + 1)) / 4

/-- The rescale of `blend` (R210). -/
def rescale (cell : Cdf16) : Cdf16 := Vector.ofFn fun i => BitVec.ofNat 16 (decay cell[i].toNat i.val)

/-- `blend(C, sym, speed)` (R210). -/
def blend (cell : Cdf16) (sym : Nat) (speed : BitVec 3) : Cdf16 :=
  let up := raiseFrom cell sym (speedInc speed)
  if Config.rescaleLimit ≤ cdfTotal up then rescale up else up

/-- One count of `average` (R215). -/
def averageCount (a b ma mb w : Nat) : Nat :=
  ((a * w * mb + b * (32768 - w) * ma) / 32768) / 2 ^ bitlen (min ma mb)

/-- `average(A, B, w)`, `w` the weight of `A` (R215). -/
def average (a b : Cdf16) (w : Nat) : Cdf16 :=
  Vector.ofFn fun i =>
    BitVec.ofNat 16 (averageCount a[i].toNat b[i].toNat (cdfTotal a) (cdfTotal b) w)

/-- `scaled(C, s)` (R217). In a cell of total 0 the division has no quotient: `scaled(C, 15)` is 32768 as the rule
says of every cell, and every other scaled count is a free value (DESIGN CHOICE, log 15). -/
def scaled (cell : Cdf16) (s : Nat) : Nat :=
  if cdfTotal cell = 0 then (if s = 15 then 32768 else (Config.freeScaled (cdf cell s) s).val)
  else cdf cell s * 32768 / cdfTotal cell

/-- `scaled(C, s - 1)`, with `scaled(C, -1) = 0` (R217, R218). -/
def scaledBelow (cell : Cdf16) (s : Nat) : Nat := if s = 0 then 0 else scaled cell (s - 1)

/-- `freq` of the interval between scaled bounds; a free value where the bounds do not rise (R218; log 5). -/
def freqBetween (lo hi : Nat) : BitVec 16 :=
  if lo < hi then BitVec.ofNat 16 (hi - lo - 1) else Config.freeFreq lo hi

/-- `start` of `sym_to_start_and_freq` (R218). -/
def symStart (cell : Cdf16) (s : Nat) : BitVec 16 := BitVec.ofNat 16 (scaledBelow cell s + 1)

/-- `freq` of `sym_to_start_and_freq` (R218). -/
def symFreq (cell : Cdf16) (s : Nat) : BitVec 16 := freqBetween (scaledBelow cell s) (scaled cell s)

/-- The symbol of an offset: the least `s` in `0..15` with `offset < scaled(C, s)` (R219). It exists, for
`scaled(C, 15)` is 32768 in every cell; in a cell of total 0 the others are free values (log 15). -/
def offsetSym (cell : Cdf16) (offset : Nat) : Nat := leastIndex 15 fun s => decide (offset < scaled cell s)

/-- `valid()` (R200, R221). -/
def validCell (cell : Cdf16) : Bool :=
  decide (0 < cdf cell 0) && (List.range 15).all (fun i => decide (cdf cell i < cdf cell (i + 1))) &&
    decide (cdfTotal cell ≤ Config.cdfMax)

/-- `C.c[0]` of a CDF2 (R224). -/
def cdf2False (cell : Cdf2) : Nat := cell[0].toNat

/-- `C.c[1]` of a CDF2, the total (R224). -/
def cdf2Total (cell : Cdf2) : Nat := cell[1].toNat

/-- The blend of a CDF2 (R226). -/
def blend2 (cell : Cdf2) (bit : Bool) (speed : BitVec 3) : Cdf2 :=
  let f := if bit then cdf2False cell else cdf2False cell + speedInc speed
  let t := cdf2Total cell + speedInc speed
  if Config.rescaleLimit ≤ t then #v[BitVec.ofNat 16 (decay f 0), BitVec.ofNat 16 (decay t 1)]
  else #v[BitVec.ofNat 16 f, BitVec.ofNat 16 t]

/-- The probability of false of a CDF2 (R227). -/
def prob2 (cell : Cdf2) : Byte := clamp8 (cdf2False cell * 256 / cdf2Total cell)

/-- The split of a CDF2 on the 15-bit scale (R228). -/
def split2 (cell : Cdf2) : Nat := cdf2False cell * 32768 / cdf2Total cell

end Sys2Proof.Machine
end

