-- ==== Sys2Proof/Machine/Protocol.lean ====
section
/-! DEFINITION. The bit and nibble protocol (R240 to R250): bits by the configured engine, the bit-tree, nibbles in
either mode, and the operations `T_*`. -/

namespace Sys2Proof.Machine

/-! ### Bits -/

/-- Go on with a division whose divisor is `d`; a zero divisor fails before it, and so before every check and every
suspension of what comes after the division (R12, read in the order of R363; DEDUCED, log 15). -/
def withDivisor {α : Type} (d : Int) (s : State) (k : Reply α) : Reply α :=
  if d = 0 then raise .zeroFrequency s else k

/-- `BitProb(lo, mid, hi)` (R240, which states it for `lo < mid < hi`); the loops of R243 and R244 have excluded `lo = hi`.
Where a difference of the rule is negative it gives no quotient: a free value (DESIGN CHOICE, log 4). At `mid = lo` and at
`hi <= mid` the model uses the formula (DEDUCED, log 4). -/
def bitProb (lo mid hi : Nat) : Byte :=
  clamp8 (if mid < lo ∨ hi < lo then Config.freeBitQuotient lo mid hi else (mid - lo) * 256 / (hi - lo))

/-- `T_PUT_BIT` (R241): the bit goes to the configured engine. -/
def putBit (bit : Bool) (p : Byte) (s : State) : Reply Unit :=
  if s.engineAns2 then symPutBit bit p s else chunkPutBit bit p s

/-- `T_GET_BIT` (R242). -/
def getBit (p : Byte) (s : State) : Reply Bool :=
  if s.engineAns2 then symGetBit p s else chunkGetBit p s

/-! ### The bit-tree -/

/-- The registers at the start of a bit-tree nibble (R243, R244). -/
def BitTree.start (x : Cdf16) : BitTree where
  active := true
  k := 3
  loSym := 0
  lo := 0
  hi := x[15]
  nib := 0

/-- The registers a call starts from: those kept by a suspended nibble, or fresh ones (R243, R244). -/
def BitTree.resume (x : Cdf16) (t : BitTree) : BitTree := if t.active then t else .start x

/-- The count at the cut of level `k`, `mid` of R243. -/
def BitTree.mid (x : Cdf16) (k : Nat) (t : BitTree) : Nat := cdf x (t.loSym.toNat + 2 ^ k - 1)

/-- The probability of false at level `k` (R243). -/
def BitTree.prob (x : Cdf16) (k : Nat) (t : BitTree) : Byte := bitProb t.lo.toNat (t.mid x k) t.hi.toNat

/-- The width of the residual range, the divisor of R240. -/
def BitTree.width (t : BitTree) : Int := (t.hi.toNat : Int) - t.lo.toNat

/-- The registers after the bit of level `k` is decided; the next level is one lower (R243, R244). -/
def BitTree.decideBit (x : Cdf16) (k : Nat) (bit : Bool) (t : BitTree) : BitTree where
  active := t.active
  k := BitVec.ofNat 2 (k - 1)
  loSym := if bit then BitVec.ofNat 4 (t.loSym.toNat + 2 ^ k) else t.loSym
  lo := if bit then BitVec.ofNat 16 (t.mid x k) else t.lo
  hi := if bit then t.hi else BitVec.ofNat 16 (t.mid x k)
  nib := if bit then t.nib ||| BitVec.ofNat 4 (2 ^ k) else t.nib

/-- The loop of R243 with `n` levels left. A residual range of width 0 fails where the loop divides by it, which is before
`T_PUT_BIT` checks `enc_finished` and room (DEDUCED from the order of R243 and R363; log 15). -/
def putTree (x : Cdf16) (nibble : Nibble) : Nat → State → Reply Unit
  | 0, s => .ok () { s with bt := { s.bt with active := false } }
  | n + 1, s =>
    let bit := nibble.getLsbD n
    withDivisor s.bt.width s <|
      (putBit bit (s.bt.prob x n) s).bind fun _ s =>
        putTree x nibble n { s with bt := s.bt.decideBit x n bit }

/-- `PutNibbleTree(C, nibble)` (R243). -/
def putNibbleTree (x : Cdf16) (nibble : Nibble) (s : State) : Reply Unit :=
  let bt := s.bt.resume x
  putTree x nibble (bt.k.toNat + 1) { s with bt := bt }

/-- The loop of R244 with `n` levels left. A residual range of width 0 fails where the loop divides by it, which is before
`T_GET_BIT` asks for bytes (DEDUCED from the order of R244 and R363; log 15). -/
def getTree (x : Cdf16) : Nat → State → Reply Nibble
  | 0, s => .ok s.bt.nib { s with bt := { s.bt with active := false } }
  | n + 1, s =>
    withDivisor s.bt.width s <|
      (getBit (s.bt.prob x n) s).bind fun bit s =>
        getTree x n { s with bt := s.bt.decideBit x n bit }

/-- `GetNibbleTree(C)` (R244). -/
def getNibbleTree (x : Cdf16) (s : State) : Reply Nibble :=
  let bt := s.bt.resume x
  getTree x (bt.k.toNat + 1) { s with bt := bt }

/-! ### Nibbles -/

/-- `T_PUT_NIBBLE` against the cell `x` (R245); a total of 0 fails before the scaling divides by it (R12; log 15). The
scaling comes before `N_ENC_PUT` in R245, so this failure comes before the checks of `enc_finished` and of room (DEDUCED
from the order of R245 and R363; log 15). -/
def putNibble (x : Cdf16) (nibble : Nibble) (s : State) : Reply Unit :=
  if s.direct16 then
    withDivisor (cdfTotal x) s (symPut (symStart x nibble.toNat) (symFreq x nibble.toNat) s)
  else putNibbleTree x nibble s

/-- `T_GET_NIBBLE` against the cell `x` (R246); an offset no symbol owns fails (R249), and so does a total of 0 before
the scaling divides by it (R12; log 15). -/
def getNibble (x : Cdf16) (s : State) : Reply Nibble :=
  if s.direct16 then
    (symOffset s).bind fun offset s =>
      withDivisor (cdfTotal x) s <|
        let sym := offsetSym x offset
        if offset < (symStart x sym).toNat then raise .invalidOffset s
        else (symAdvance (symStart x sym) (symFreq x sym) s).map fun _ => BitVec.ofNat 4 sym
  else getNibbleTree x s

/-! ### The operations -/

/-- `T_PUT_NIBBLE(a, nibble)` (R245). -/
def execTPutNibble (a : BitVec 16) (nibble : Nibble) (s : State) : Host.Outcome State Fault Refusal :=
  runOp .encode true
    (fun s => withCell a s fun x => (putNibble x nibble s).map fun _ => .nothing) s

/-- `T_GET_NIBBLE(a)` (R246). -/
def execTGetNibble (a : BitVec 16) (s : State) : Host.Outcome State Fault Refusal :=
  runOp .decode true (fun s => withCell a s fun x => (getNibble x s).map .nibble) s

/-- `T_PUT_BIT(bit, p)` (R241). -/
def execTPutBit (bit : Bool) (p : Byte) (s : State) : Host.Outcome State Fault Refusal :=
  runOp .encode true (fun s => (putBit bit p s).map fun _ => .nothing) s

/-- `T_GET_BIT(p)` (R242). -/
def execTGetBit (p : Byte) (s : State) : Host.Outcome State Fault Refusal :=
  runOp .decode true (fun s => (getBit p s).map .bit) s

end Sys2Proof.Machine
end

