-- ==== Sys2Proof/Machine/Integer.lean ====
section
/-! DEFINITION. The codec step that codes one nibble (R260 to R262) and the tiered integer (R263 to R271): its users,
its stages, what each stage codes and against which cell. -/

namespace Sys2Proof.Machine

/-! ### Moving the codec -/

/-- `substate <- x`. -/
def State.goto (x : Substate) (s : State) : State := { s with codec := { s.codec with substate := x } }

/-- Change the command register (R42). -/
def State.setCmd (f : Command → Command) (s : State) : State :=
  { s with codec := { s.codec with cmd := f s.codec.cmd } }

/-- Change the bookkeeping registers (R30). -/
def State.setCtx (f : Context → Context) (s : State) : State := { s with ctx := f s.ctx }

/-! ### Coding one nibble -/

/-- Code one nibble against the cell `x`: `want` in an encode session, the coder's nibble in a decode session. -/
def codeAgainst (x : Cdf16) (want : Nibble) (s : State) : Reply Nibble :=
  if s.isDecode then getNibble x s else (putNibble x want s).map fun _ => want

/-- `CodeNibble(C, speed, want)` for the priors cell at `a` (R262): code, then blend the cell as it stands. -/
def codeNibble (a : Nat) (speed : BitVec 3) (want : Nibble) (s : State) : Reply Nibble :=
  (codeAgainst (s.prior a) want s).bind fun v s => .ok v (s.setPrior a (blend (s.prior a) v.toNat speed))

/-! ### The users of the tiered integer -/

/-- The four users (R263). -/
inductive IntUser where
  | copyCount
  | literalLen
  | dictField (f : Fin 4)
  | mapCount (mi : MapId)
  deriving DecidableEq, Repr

/-- The user's style is the copy style (R263). -/
def IntUser.copyStyle : IntUser → Bool
  | .copyCount => true
  | .literalLen => false
  | .dictField _ => false
  | .mapCount _ => false

/-- `T1` (R263). -/
def IntUser.t1 (u : IntUser) : Nat := if u.copyStyle then 17 else 14

/-- `T2` (R263). -/
def IntUser.t2 (u : IntUser) : Nat := if u.copyStyle then 18 else 15

/-- The substate of a stage of the user (R263). -/
def IntUser.at : IntUser → IntStage → Substate
  | .copyCount, .small => .countSmall
  | .copyCount, .first => .countLengthFirst
  | .copyCount, .greater => .countLengthGreater18Less25
  | .copyCount, .mantissaHeader => .countMantissaHeader
  | .copyCount, .mantissaNibbles ld lr dsf => .countMantissaNibbles ld lr dsf
  | .literalLen, .small => .literalCountSmall
  | .literalLen, .first => .literalCountFirst
  | .literalLen, .greater => .literalCountLengthGreater14Less25
  | .literalLen, .mantissaHeader => .literalCountMantissaHeader
  | .literalLen, .mantissaNibbles ld lr dsf => .literalCountMantissaNibbles ld lr dsf
  | .dictField f, stage => .dictField f stage
  | .mapCount mi, stage => .mapCount mi stage

/-- The user and stage a substate is, if it is one of a tiered integer (R263). -/
def Substate.intStage : Substate → Option (IntUser × IntStage)
  | .begin => none
  | .countSmall => some (.copyCount, .small)
  | .countLengthFirst => some (.copyCount, .first)
  | .countLengthGreater18Less25 => some (.copyCount, .greater)
  | .countMantissaHeader => some (.copyCount, .mantissaHeader)
  | .countMantissaNibbles ld lr dsf => some (.copyCount, .mantissaNibbles ld lr dsf)
  | .countDecoded => none
  | .distanceLengthMnemonic => none
  | .distanceLengthFirst => none
  | .distanceMantissaNibbles _ _ _ => none
  | .literalCountSmall => some (.literalLen, .small)
  | .literalCountFirst => some (.literalLen, .first)
  | .literalCountLengthGreater14Less25 => some (.literalLen, .greater)
  | .literalCountMantissaHeader => some (.literalLen, .mantissaHeader)
  | .literalCountMantissaNibbles ld lr dsf => some (.literalLen, .mantissaNibbles ld lr dsf)
  | .literalHighEntropy => none
  | .literalNibbleIndex _ => none
  | .dictField f stage => some (.dictField f, stage)
  | .blockTypeHigh => none
  | .blockTypeLow => none
  | .predMode => none
  | .predSpeedStride => none
  | .predSpeedCm => none
  | .mapCount mi stage => some (.mapCount mi, stage)
  | .mapEntryMnemonic _ _ => none
  | .mapEntryHigh _ _ => none
  | .mapEntryLow _ _ => none
  | .fullyDecoded => none

/-- `mi` as a number (R321). -/
def MapId.index : MapId → Nat
  | .literal => 0
  | .distance => 1

/-- `capacity(mi)` (R321). -/
def MapId.capacity : MapId → Nat
  | .literal => Config.litCmapCapacity
  | .distance => Config.distCmapCapacity

/-- The map of `cmd` that `mi` names (R321). -/
def commandMap (c : Command) : MapId → List Byte
  | .literal => c.litMap
  | .distance => c.distMap

/-- Replace the map of `cmd` that `mi` names. -/
def setCommandMap (mi : MapId) (m : List Byte) (c : Command) : Command :=
  match mi with
  | .literal => { c with litMap := m }
  | .distance => { c with distMap := m }

/-- Field `f` of a Dict (R316). -/
def dictValue (c : Command) (f : Fin 4) : BitVec 32 :=
  if f = 0 then c.wordId else if f = 1 then c.wordSize else if f = 2 then c.transform else c.finalSize

/-- Replace field `f` of a Dict (R316). -/
def setDictField (f : Fin 4) (v : BitVec 32) (c : Command) : Command :=
  if f = 0 then { c with wordId := v }
  else if f = 1 then { c with wordSize := v }
  else if f = 2 then { c with transform := v }
  else { c with finalSize := v }

/-- The value `V` an encoder codes for the user. -/
def IntUser.value (u : IntUser) (c : Command) : Nat :=
  match u with
  | .copyCount => c.numBytes.toNat
  | .literalLen => c.len.toNat
  | .dictField f => (dictValue c f).toNat
  | .mapCount mi => (commandMap c mi).length

/-- The priors address of position `pos` of the user's integer (R70, R263). -/
def IntUser.prior (u : IntUser) (s : State) (pos : Nat) : Nat :=
  match u with
  | .copyCount => priorCopyCount s.ctx.btypeCmd.toNat pos
  | .literalLen => priorLitCount s.ctx.btypeLit.toNat pos
  | .dictField f => priorDict s.ctx.btypeCmd.toNat f.val pos
  | .mapCount mi => priorCmapCount mi.index pos

/-! ### The stages -/

/-- `pos` of a stage (R70, R263). -/
def IntStage.pos : IntStage → Nat
  | .small => 0
  | .first => 1
  | .greater => 2
  | .mantissaHeader => 3
  | .mantissaNibbles ld _ _ => 4 + ld.toNat

/-- The speed of a stage (R269). -/
def IntStage.speed : IntStage → BitVec 3
  | .small => speedFast
  | .first => speedFast
  | .greater => speedFast
  | .mantissaHeader => speedMed
  | .mantissaNibbles _ _ _ => speedSlow

/-- The repeat escape applies to the command being encoded (R281). -/
def State.repeatApplies (s : State) : Bool :=
  s.copyRepeatEsc && decide (s.codec.cmd.numBytes = 1) && decide (s.codec.cmd.distance = s.ctx.distanceLru[0])

/-- `k`, the least number of nibbles that holds `v` (R101, R267). -/
def nibbleCount (v : Nat) : Nat := max 1 ((bitlen v + 3) / 4)

/-- Mantissa nibble of `v` with `lr` nibbles remaining and `dsf` sent (R268, R289). -/
def mantissaWant (v : Nat) (lr : BitVec 4) (dsf : BitVec 32) : Nibble :=
  BitVec.ofNat 4 ((v ^^^ dsf.toNat) / 2 ^ (4 * (lr.toNat - 1)))

/-- `dsf` with the nibble `n` put in (R268, R289). -/
def mantissaPut (n : Nibble) (lr : BitVec 4) (dsf : BitVec 32) : BitVec 32 :=
  dsf ||| BitVec.ofNat 32 (n.toNat * 2 ^ (4 * (lr.toNat - 1)))

/-- The Small nibble an encoder chooses for `v` (R264). -/
def smallWant (u : IntUser) (v : Nat) (s : State) : Nibble :=
  if u = .copyCount ∧ s.repeatApplies = true then 12
  else if v ≤ 9 then BitVec.ofNat 4 v
  else if v ≤ u.t1 then 10
  else if v ≤ 24 then 11
  else 13

/-- The nibble an encoder codes in a stage of the user (R264 to R268). -/
def IntUser.want (u : IntUser) (stage : IntStage) (s : State) : Nibble :=
  let v := u.value s.codec.cmd
  match stage with
  | .small => smallWant u v s
  | .first => BitVec.ofNat 4 (v - 10)
  | .greater => BitVec.ofNat 4 (v - u.t2)
  | .mantissaHeader => BitVec.ofNat 4 (nibbleCount v - 1)
  | .mantissaNibbles _ lr dsf => mantissaWant v lr dsf

/-! ### What a complete integer does -/

/-- Commit (R324). -/
def State.commit (s : State) : State :=
  let c := s.codec.cmd
  (s.setCtx fun x => { x with
    predMode := c.pm
    speedStride := c.speedStride
    speedCm := c.speedCm
    litCmap := Memory.writeList 0 x.litCmap 0 c.litMap
    litCmapLen := BitVec.ofNat 15 c.litMap.length
    distCmap := Memory.writeList 0 x.distCmap 0 c.distMap
    distCmapLen := BitVec.ofNat 11 c.distMap.length }).goto .fullyDecoded

/-- The user's completion rule for `V` (R280, R303, R316, R321). -/
def IntUser.complete (u : IntUser) (v : BitVec 32) (s : State) : Reply Unit :=
  match u with
  | .copyCount => .ok () ((s.setCmd fun c => { c with numBytes := v }).goto .countDecoded)
  | .literalLen =>
    if Config.literalMaxLen < v.toNat then raise .lengthOutOfRange s
    else
      .ok () ((s.setCmd fun c =>
        { c with len := v, data := if s.isDecode then List.replicate v.toNat 0 else c.data }).goto
          .literalHighEntropy)
  | .dictField f =>
    .ok () ((s.setCmd (setDictField f v)).goto
      (if f.val < 3 then .dictField (f + 1) .small else .fullyDecoded))
  | .mapCount mi =>
    if mi.capacity < v.toNat then raise .contextMapIndexOutOfRange s
    else
      let s := if s.isDecode then s.setCmd (setCommandMap mi (List.replicate v.toNat 0)) else s
      if v ≠ 0 then .ok () (s.goto (.mapEntryMnemonic mi 0))
      else if mi = .literal then .ok () (s.goto (.mapCount .distance .small))
      else .ok () s.commit

end Sys2Proof.Machine
end

