-- ==== Sys2Proof/Machine/Codec.lean ====
section
/-! DEFINITION. What the codec does with a coded nibble, one shared operation per kind of row: the type step, the
integer stages, the distance, the literal flags, the prediction mode and the map entries (R264 to R268, R280 to R290,
R301, R304, R320 to R324); and the place where each value table is read. -/

namespace Sys2Proof.Machine

/-! ### Where a table is read -/

/-- The value table of a stage of the user (R99 to R101); mantissa nibbles have none. -/
def IntStage.table (copyStyle : Bool) : IntStage → Option NibbleTable
  | .small => some .small
  | .first => some (if copyStyle then .firstCopy else .firstLit)
  | .greater => some (if copyStyle then .greaterCopy else .greaterLit)
  | .mantissaHeader => some .header
  | .mantissaNibbles _ _ _ => none

/-- The value table of the nibble a substate codes, if it has one (R97, R99 to R104). -/
def Substate.table (x : Substate) : Option NibbleTable :=
  match x with
  | .distanceLengthMnemonic => some .distMnemonic
  | .distanceLengthFirst => some .header
  | .literalHighEntropy => some .highEntropy
  | .predMode => some .predMode
  | .predSpeedStride => some .speed
  | .predSpeedCm => some .speed
  | .mapEntryMnemonic _ _ => some .cmapEntry
  | x =>
    match x.intStage with
    | some (u, stage) => stage.table u.copyStyle
    | none => none

/-- The value table the next codec step reads its nibble by, if it reads one (R300, R301). -/
def State.expects (s : State) : Option NibbleTable :=
  if s.ctl.failed then none
  else
    match s.codec.top with
    | .topBegin => some .cmdType
    | .inCommand => s.codec.substate.table
    | .topEof => none

/-- The outcome of a coded-nibble row: its effect after the nibble was coded and its cell blended (R262; log 2). -/
def Reply.rowOutcome (x : Reply Unit) : Host.Outcome State Fault Refusal :=
  match x with
  | .ok _ s => .next s
  | .wait _ s => .next s
  | .fail s => .next s
  | .refused r => .refused r
  | .fault f => .fault f

/-- Do the effect of a row of table `t`, where the codec reads that table (log 2). -/
def atTable (t : NibbleTable) (body : State → Reply Unit) (s : State) : Host.Outcome State Fault Refusal :=
  if s.expects = some t then (body s).rowOutcome else .refused .nibbleOutOfPlace

/-- Go on with the tiered integer the substate is a stage of. -/
def withUser (s : State) (k : IntUser → Reply Unit) : Reply Unit :=
  match s.codec.substate.intStage with
  | some (u, _) => k u
  | none => .refused .nibbleOutOfPlace

/-! ### Context-map entries -/

/-- Entry completion (R323). -/
def entryDone (mi : MapId) (j : Nat) (e : Byte) (s : State) : State :=
  let s := s.setCtx fun x => { x with cmapLru := touch x.cmapLru e }
  let s := s.setCmd fun c => setCommandMap mi ((commandMap c mi).set j e) c
  if j + 1 < (commandMap s.codec.cmd mi).length then s.goto (.mapEntryMnemonic mi (j + 1))
  else if mi = .literal then s.goto (.mapCount .distance .small)
  else s.commit

/-- Go on with the map entry whose mnemonic is read (R322). -/
def withEntry (s : State) (k : MapId → Nat → Reply Unit) : Reply Unit :=
  match s.codec.substate with
  | .mapEntryMnemonic mi j => k mi j
  | _ => .refused .nibbleOutOfPlace

/-- A context-map mnemonic `m <= 12` (R103, R322). -/
def cmapRecent (m : Fin 13) (s : State) : Reply Unit :=
  withEntry s fun mi j => .ok () (entryDone mi j s.ctx.cmapLru[m] s)

/-- The context-map mnemonic 13: two nibbles follow (R103, R322). -/
def cmapEscape (s : State) : Reply Unit := withEntry s fun mi j => .ok () (s.goto (.mapEntryHigh mi j))

/-! ### The type step -/

/-- A command-type nibble that names a command (R301). -/
def beginCommand (t : Nibble) (s : State) : Reply Unit :=
  .ok () { s with
    ctx := { s.ctx with lastCmd := t }
    codec :=
      { top := .inCommand
        substate := .begin
        cmd := if s.isDecode then Command.blank t else { s.codec.cmd with kind := t } } }

/-! ### The tiered integer -/

/-- A Small nibble `c <= 9` (R264). -/
def smallDone (v : BitVec 32) (s : State) : Reply Unit := withUser s fun u => u.complete v s

/-- A Small nibble that goes on to another stage (R264). -/
def smallGoto (stage : IntStage) (s : State) : Reply Unit := withUser s fun u => .ok () (s.goto (u.at stage))

/-- The Small nibble 12: the repeat path of a Copy, reserved for every other user (R264, R282). -/
def smallEscape (s : State) : Reply Unit :=
  withUser s fun u =>
    if u = .copyCount then
      let d := s.ctx.distanceLru[0]
      let s := s.setCmd fun c => { c with numBytes := 1, distance := d }
      let s := s.setCtx fun x => { x with distanceLru := touch x.distanceLru d }
      .ok () (s.goto .fullyDecoded)
    else raise .reservedNibbleCode s

/-- A First nibble `f`: the value `10 + f`, reserved above `T1` (R265). -/
def firstNibble (f : Nat) (s : State) : Reply Unit :=
  withUser s fun u =>
    if u.t1 < 10 + f then raise .reservedNibbleCode s else u.complete (BitVec.ofNat 32 (10 + f)) s

/-- A Greater nibble `g`: the value `T2 + g`, reserved above 24 (R266). -/
def greaterNibble (g : Nat) (s : State) : Reply Unit :=
  withUser s fun u =>
    if 24 < u.t2 + g then raise .reservedNibbleCode s else u.complete (BitVec.ofNat 32 (u.t2 + g)) s

/-- A mantissa header nibble `h`, of a tiered integer (R267) or of an explicit distance (R288). -/
def headerNibble (h : Nat) (s : State) : Reply Unit :=
  if 7 < h then raise .reservedNibbleCode s
  else if s.codec.substate = .distanceLengthFirst then
    .ok () (s.goto (.distanceMantissaNibbles 0 (BitVec.ofNat 4 (h + 1)) 0))
  else withUser s fun u => .ok () (s.goto (u.at (.mantissaNibbles 0 (BitVec.ofNat 4 (h + 1)) 0)))

/-- A mantissa nibble of the user's integer (R268). -/
def mantissaNibble (u : IntUser) (ld lr : BitVec 4) (dsf : BitVec 32) (n : Nibble) (s : State) : Reply Unit :=
  let dsf := mantissaPut n lr dsf
  if lr.toNat ≤ 1 then u.complete dsf s
  else .ok () (s.goto (u.at (.mantissaNibbles (ld + 1) (lr - 1) dsf)))

/-! ### The distance -/

/-- `MnemonicValue(m)` over the unbounded integers (R286). -/
def mnemonicValue (lru : Vector (BitVec 32) 4) (m : Fin 15) : Int :=
  let l0 : Int := lru[0].toNat
  let l1 : Int := lru[1].toNat
  match m.val with
  | 0 => l0
  | 1 => l1
  | 2 => lru[2].toNat
  | 3 => lru[3].toNat
  | 4 => l0 - 1
  | 5 => l0 + 1
  | 6 => l0 - 2
  | 7 => l0 + 2
  | 8 => l0 - 3
  | 9 => l0 + 3
  | 10 => l1 - 1
  | 11 => l1 + 1
  | 12 => l1 - 2
  | 13 => l1 + 2
  | _ => l1 - 3

/-- A valid distance (R286). -/
def validDistance (v : Int) : Bool := decide (1 ≤ v) && decide (v ≤ Config.maxDistance)

/-- Copy completion with the distance `d` (R287, R289, R290). -/
def copyDone (d : BitVec 32) (s : State) : State :=
  let s := s.setCmd fun c => { c with distance := d }
  let s := s.setCtx fun x => { x with distanceLru := touch x.distanceLru d }
  s.goto .fullyDecoded

/-- A distance mnemonic `m <= 14` (R287). -/
def mnemonicNibble (m : Fin 15) (s : State) : Reply Unit :=
  let v := mnemonicValue s.ctx.distanceLru m
  if validDistance v then .ok () (copyDone (BitVec.ofInt 32 v) s) else raise .distanceOutOfRange s

/-- The distance mnemonic 15: an explicit distance follows (R287). -/
def mnemonicEscape (s : State) : Reply Unit := .ok () (s.goto .distanceLengthFirst)

/-- A mantissa nibble of an explicit distance (R289). -/
def distanceNibble (ld lr : BitVec 4) (dsf : BitVec 32) (n : Nibble) (s : State) : Reply Unit :=
  let dsf := mantissaPut n lr dsf
  if lr.toNat ≤ 1 then
    if dsf = 0 then raise .distanceOutOfRange s else .ok () (copyDone dsf s)
  else .ok () (s.goto (.distanceMantissaNibbles (ld + 1) (lr - 1) dsf))

/-! ### Single-nibble fields -/

/-- A high-entropy nibble 0 or 1 (R304). -/
def highEntropyFlag (he : Bool) (s : State) : Reply Unit :=
  .ok () ((s.setCmd fun c => { c with highEntropy := he }).goto
    (if s.codec.cmd.len = 0 then .fullyDecoded else .literalNibbleIndex 0))

/-- A prediction-mode nibble `0..3` (R320). -/
def predModeField (pm : BitVec 2) (s : State) : Reply Unit :=
  .ok () ((s.setCmd fun c => { c with pm := pm }).goto .predSpeedStride)

/-- A speed nibble `0..7`, of the stride model or of the context-map model (R320). -/
def speedField (v : BitVec 3) (s : State) : Reply Unit :=
  if s.codec.substate = .predSpeedStride then
    .ok () ((s.setCmd fun c => { c with speedStride := v }).goto .predSpeedCm)
  else .ok () ((s.setCmd fun c => { c with speedCm := v }).goto (.mapCount .literal .small))

end Sys2Proof.Machine
end

