-- ==== Sys2Proof/Machine/NibbleRows.lean ====
section
/-! DEFINITION. The meaning of every coded-nibble row of the opcode table (R97, R99 to R104): the effect of the codec
step after `CodeNibble` has yielded that nibble (R262; log 2). -/

namespace Sys2Proof.Machine

/-! ### Command-type nibbles (R97, R301) -/

/-- `CMD_COPY`: nibble 1 (R97, R301). -/
def execCmdCopy (s : State) : Host.Outcome State Fault Refusal := atTable .cmdType (beginCommand 1) s

/-- `CMD_DICT`: nibble 2 (R97, R301). -/
def execCmdDict (s : State) : Host.Outcome State Fault Refusal := atTable .cmdType (beginCommand 2) s

/-- `CMD_LITERAL`: nibble 3 (R97, R301). -/
def execCmdLiteral (s : State) : Host.Outcome State Fault Refusal := atTable .cmdType (beginCommand 3) s

/-- `CMD_BLOCKSWITCH_LITERAL`: nibble 4 (R97, R301). -/
def execCmdBlockswitchLiteral (s : State) : Host.Outcome State Fault Refusal := atTable .cmdType (beginCommand 4) s

/-- `CMD_BLOCKSWITCH_COMMAND`: nibble 5 (R97, R301). -/
def execCmdBlockswitchCommand (s : State) : Host.Outcome State Fault Refusal := atTable .cmdType (beginCommand 5) s

/-- `CMD_BLOCKSWITCH_DISTANCE`: nibble 6 (R97, R301). -/
def execCmdBlockswitchDistance (s : State) : Host.Outcome State Fault Refusal := atTable .cmdType (beginCommand 6) s

/-- `CMD_PREDICTION_MODE`: nibble 7 (R97, R301). -/
def execCmdPredictionMode (s : State) : Host.Outcome State Fault Refusal := atTable .cmdType (beginCommand 7) s

/-- `CMD_EOF`: nibble 15 (R97, R301). -/
def execCmdEof (s : State) : Host.Outcome State Fault Refusal := atTable .cmdType (beginCommand 15) s

/-- `CMD_RESERVED_0`: nibble 0 (R97, R301). -/
def execCmdReserved0 (s : State) : Host.Outcome State Fault Refusal := atTable .cmdType (raise .malformedCommandType) s

/-- `CMD_RESERVED_8`: nibble 8 (R97, R301). -/
def execCmdReserved8 (s : State) : Host.Outcome State Fault Refusal := atTable .cmdType (raise .malformedCommandType) s

/-- `CMD_RESERVED_9`: nibble 9 (R97, R301). -/
def execCmdReserved9 (s : State) : Host.Outcome State Fault Refusal := atTable .cmdType (raise .malformedCommandType) s

/-- `CMD_RESERVED_10`: nibble 10 (R97, R301). -/
def execCmdReserved10 (s : State) : Host.Outcome State Fault Refusal := atTable .cmdType (raise .malformedCommandType) s

/-- `CMD_RESERVED_11`: nibble 11 (R97, R301). -/
def execCmdReserved11 (s : State) : Host.Outcome State Fault Refusal := atTable .cmdType (raise .malformedCommandType) s

/-- `CMD_RESERVED_12`: nibble 12 (R97, R301). -/
def execCmdReserved12 (s : State) : Host.Outcome State Fault Refusal := atTable .cmdType (raise .malformedCommandType) s

/-- `CMD_RESERVED_13`: nibble 13 (R97, R301). -/
def execCmdReserved13 (s : State) : Host.Outcome State Fault Refusal := atTable .cmdType (raise .malformedCommandType) s

/-- `CMD_RESERVED_14`: nibble 14 (R97, R301). -/
def execCmdReserved14 (s : State) : Host.Outcome State Fault Refusal := atTable .cmdType (raise .malformedCommandType) s

/-! ### Small nibbles (R99, R264) -/

/-- `SMALL_VALUE_0`: nibble 0 (R99, R264). -/
def execSmallValue0 (s : State) : Host.Outcome State Fault Refusal := atTable .small (smallDone 0) s

/-- `SMALL_VALUE_1`: nibble 1 (R99, R264). -/
def execSmallValue1 (s : State) : Host.Outcome State Fault Refusal := atTable .small (smallDone 1) s

/-- `SMALL_VALUE_2`: nibble 2 (R99, R264). -/
def execSmallValue2 (s : State) : Host.Outcome State Fault Refusal := atTable .small (smallDone 2) s

/-- `SMALL_VALUE_3`: nibble 3 (R99, R264). -/
def execSmallValue3 (s : State) : Host.Outcome State Fault Refusal := atTable .small (smallDone 3) s

/-- `SMALL_VALUE_4`: nibble 4 (R99, R264). -/
def execSmallValue4 (s : State) : Host.Outcome State Fault Refusal := atTable .small (smallDone 4) s

/-- `SMALL_VALUE_5`: nibble 5 (R99, R264). -/
def execSmallValue5 (s : State) : Host.Outcome State Fault Refusal := atTable .small (smallDone 5) s

/-- `SMALL_VALUE_6`: nibble 6 (R99, R264). -/
def execSmallValue6 (s : State) : Host.Outcome State Fault Refusal := atTable .small (smallDone 6) s

/-- `SMALL_VALUE_7`: nibble 7 (R99, R264). -/
def execSmallValue7 (s : State) : Host.Outcome State Fault Refusal := atTable .small (smallDone 7) s

/-- `SMALL_VALUE_8`: nibble 8 (R99, R264). -/
def execSmallValue8 (s : State) : Host.Outcome State Fault Refusal := atTable .small (smallDone 8) s

/-- `SMALL_VALUE_9`: nibble 9 (R99, R264). -/
def execSmallValue9 (s : State) : Host.Outcome State Fault Refusal := atTable .small (smallDone 9) s

/-- `SMALL_FIRST`: nibble 10 (R99, R264). -/
def execSmallFirst (s : State) : Host.Outcome State Fault Refusal := atTable .small (smallGoto .first) s

/-- `SMALL_GREATER`: nibble 11 (R99, R264). -/
def execSmallGreater (s : State) : Host.Outcome State Fault Refusal := atTable .small (smallGoto .greater) s

/-- `SMALL_REPEAT`: nibble 12 (R99, R264). -/
def execSmallRepeat (s : State) : Host.Outcome State Fault Refusal := atTable .small (smallEscape) s

/-- `SMALL_MANTISSA`: nibble 13 (R99, R264). -/
def execSmallMantissa (s : State) : Host.Outcome State Fault Refusal := atTable .small (smallGoto .mantissaHeader) s

/-- `SMALL_RESERVED_14`: nibble 14 (R99, R264). -/
def execSmallReserved14 (s : State) : Host.Outcome State Fault Refusal := atTable .small (raise .reservedNibbleCode) s

/-- `SMALL_RESERVED_15`: nibble 15 (R99, R264). -/
def execSmallReserved15 (s : State) : Host.Outcome State Fault Refusal := atTable .small (raise .reservedNibbleCode) s

/-! ### First nibbles, copy style (R100, R265) -/

/-- `FIRST_COPY_0`: nibble 0 (R100, R265). -/
def execFirstCopy0 (s : State) : Host.Outcome State Fault Refusal := atTable .firstCopy (firstNibble 0) s

/-- `FIRST_COPY_1`: nibble 1 (R100, R265). -/
def execFirstCopy1 (s : State) : Host.Outcome State Fault Refusal := atTable .firstCopy (firstNibble 1) s

/-- `FIRST_COPY_2`: nibble 2 (R100, R265). -/
def execFirstCopy2 (s : State) : Host.Outcome State Fault Refusal := atTable .firstCopy (firstNibble 2) s

/-- `FIRST_COPY_3`: nibble 3 (R100, R265). -/
def execFirstCopy3 (s : State) : Host.Outcome State Fault Refusal := atTable .firstCopy (firstNibble 3) s

/-- `FIRST_COPY_4`: nibble 4 (R100, R265). -/
def execFirstCopy4 (s : State) : Host.Outcome State Fault Refusal := atTable .firstCopy (firstNibble 4) s

/-- `FIRST_COPY_5`: nibble 5 (R100, R265). -/
def execFirstCopy5 (s : State) : Host.Outcome State Fault Refusal := atTable .firstCopy (firstNibble 5) s

/-- `FIRST_COPY_6`: nibble 6 (R100, R265). -/
def execFirstCopy6 (s : State) : Host.Outcome State Fault Refusal := atTable .firstCopy (firstNibble 6) s

/-- `FIRST_COPY_7`: nibble 7 (R100, R265). -/
def execFirstCopy7 (s : State) : Host.Outcome State Fault Refusal := atTable .firstCopy (firstNibble 7) s

/-- `FIRST_COPY_8`: nibble 8 (R100, R265). -/
def execFirstCopy8 (s : State) : Host.Outcome State Fault Refusal := atTable .firstCopy (firstNibble 8) s

/-- `FIRST_COPY_9`: nibble 9 (R100, R265). -/
def execFirstCopy9 (s : State) : Host.Outcome State Fault Refusal := atTable .firstCopy (firstNibble 9) s

/-- `FIRST_COPY_10`: nibble 10 (R100, R265). -/
def execFirstCopy10 (s : State) : Host.Outcome State Fault Refusal := atTable .firstCopy (firstNibble 10) s

/-- `FIRST_COPY_11`: nibble 11 (R100, R265). -/
def execFirstCopy11 (s : State) : Host.Outcome State Fault Refusal := atTable .firstCopy (firstNibble 11) s

/-- `FIRST_COPY_12`: nibble 12 (R100, R265). -/
def execFirstCopy12 (s : State) : Host.Outcome State Fault Refusal := atTable .firstCopy (firstNibble 12) s

/-- `FIRST_COPY_13`: nibble 13 (R100, R265). -/
def execFirstCopy13 (s : State) : Host.Outcome State Fault Refusal := atTable .firstCopy (firstNibble 13) s

/-- `FIRST_COPY_14`: nibble 14 (R100, R265). -/
def execFirstCopy14 (s : State) : Host.Outcome State Fault Refusal := atTable .firstCopy (firstNibble 14) s

/-- `FIRST_COPY_15`: nibble 15 (R100, R265). -/
def execFirstCopy15 (s : State) : Host.Outcome State Fault Refusal := atTable .firstCopy (firstNibble 15) s

/-! ### Greater nibbles, copy style (R100, R266) -/

/-- `GREATER_COPY_0`: nibble 0 (R100, R266). -/
def execGreaterCopy0 (s : State) : Host.Outcome State Fault Refusal := atTable .greaterCopy (greaterNibble 0) s

/-- `GREATER_COPY_1`: nibble 1 (R100, R266). -/
def execGreaterCopy1 (s : State) : Host.Outcome State Fault Refusal := atTable .greaterCopy (greaterNibble 1) s

/-- `GREATER_COPY_2`: nibble 2 (R100, R266). -/
def execGreaterCopy2 (s : State) : Host.Outcome State Fault Refusal := atTable .greaterCopy (greaterNibble 2) s

/-- `GREATER_COPY_3`: nibble 3 (R100, R266). -/
def execGreaterCopy3 (s : State) : Host.Outcome State Fault Refusal := atTable .greaterCopy (greaterNibble 3) s

/-- `GREATER_COPY_4`: nibble 4 (R100, R266). -/
def execGreaterCopy4 (s : State) : Host.Outcome State Fault Refusal := atTable .greaterCopy (greaterNibble 4) s

/-- `GREATER_COPY_5`: nibble 5 (R100, R266). -/
def execGreaterCopy5 (s : State) : Host.Outcome State Fault Refusal := atTable .greaterCopy (greaterNibble 5) s

/-- `GREATER_COPY_6`: nibble 6 (R100, R266). -/
def execGreaterCopy6 (s : State) : Host.Outcome State Fault Refusal := atTable .greaterCopy (greaterNibble 6) s

/-- `GREATER_COPY_7`: nibble 7 (R100, R266). -/
def execGreaterCopy7 (s : State) : Host.Outcome State Fault Refusal := atTable .greaterCopy (greaterNibble 7) s

/-- `GREATER_COPY_8`: nibble 8 (R100, R266). -/
def execGreaterCopy8 (s : State) : Host.Outcome State Fault Refusal := atTable .greaterCopy (greaterNibble 8) s

/-- `GREATER_COPY_9`: nibble 9 (R100, R266). -/
def execGreaterCopy9 (s : State) : Host.Outcome State Fault Refusal := atTable .greaterCopy (greaterNibble 9) s

/-- `GREATER_COPY_10`: nibble 10 (R100, R266). -/
def execGreaterCopy10 (s : State) : Host.Outcome State Fault Refusal := atTable .greaterCopy (greaterNibble 10) s

/-- `GREATER_COPY_11`: nibble 11 (R100, R266). -/
def execGreaterCopy11 (s : State) : Host.Outcome State Fault Refusal := atTable .greaterCopy (greaterNibble 11) s

/-- `GREATER_COPY_12`: nibble 12 (R100, R266). -/
def execGreaterCopy12 (s : State) : Host.Outcome State Fault Refusal := atTable .greaterCopy (greaterNibble 12) s

/-- `GREATER_COPY_13`: nibble 13 (R100, R266). -/
def execGreaterCopy13 (s : State) : Host.Outcome State Fault Refusal := atTable .greaterCopy (greaterNibble 13) s

/-- `GREATER_COPY_14`: nibble 14 (R100, R266). -/
def execGreaterCopy14 (s : State) : Host.Outcome State Fault Refusal := atTable .greaterCopy (greaterNibble 14) s

/-- `GREATER_COPY_15`: nibble 15 (R100, R266). -/
def execGreaterCopy15 (s : State) : Host.Outcome State Fault Refusal := atTable .greaterCopy (greaterNibble 15) s

/-! ### First nibbles, literal style (R100, R265) -/

/-- `FIRST_LIT_0`: nibble 0 (R100, R265). -/
def execFirstLit0 (s : State) : Host.Outcome State Fault Refusal := atTable .firstLit (firstNibble 0) s

/-- `FIRST_LIT_1`: nibble 1 (R100, R265). -/
def execFirstLit1 (s : State) : Host.Outcome State Fault Refusal := atTable .firstLit (firstNibble 1) s

/-- `FIRST_LIT_2`: nibble 2 (R100, R265). -/
def execFirstLit2 (s : State) : Host.Outcome State Fault Refusal := atTable .firstLit (firstNibble 2) s

/-- `FIRST_LIT_3`: nibble 3 (R100, R265). -/
def execFirstLit3 (s : State) : Host.Outcome State Fault Refusal := atTable .firstLit (firstNibble 3) s

/-- `FIRST_LIT_4`: nibble 4 (R100, R265). -/
def execFirstLit4 (s : State) : Host.Outcome State Fault Refusal := atTable .firstLit (firstNibble 4) s

/-- `FIRST_LIT_5`: nibble 5 (R100, R265). -/
def execFirstLit5 (s : State) : Host.Outcome State Fault Refusal := atTable .firstLit (firstNibble 5) s

/-- `FIRST_LIT_6`: nibble 6 (R100, R265). -/
def execFirstLit6 (s : State) : Host.Outcome State Fault Refusal := atTable .firstLit (firstNibble 6) s

/-- `FIRST_LIT_7`: nibble 7 (R100, R265). -/
def execFirstLit7 (s : State) : Host.Outcome State Fault Refusal := atTable .firstLit (firstNibble 7) s

/-- `FIRST_LIT_8`: nibble 8 (R100, R265). -/
def execFirstLit8 (s : State) : Host.Outcome State Fault Refusal := atTable .firstLit (firstNibble 8) s

/-- `FIRST_LIT_9`: nibble 9 (R100, R265). -/
def execFirstLit9 (s : State) : Host.Outcome State Fault Refusal := atTable .firstLit (firstNibble 9) s

/-- `FIRST_LIT_10`: nibble 10 (R100, R265). -/
def execFirstLit10 (s : State) : Host.Outcome State Fault Refusal := atTable .firstLit (firstNibble 10) s

/-- `FIRST_LIT_11`: nibble 11 (R100, R265). -/
def execFirstLit11 (s : State) : Host.Outcome State Fault Refusal := atTable .firstLit (firstNibble 11) s

/-- `FIRST_LIT_12`: nibble 12 (R100, R265). -/
def execFirstLit12 (s : State) : Host.Outcome State Fault Refusal := atTable .firstLit (firstNibble 12) s

/-- `FIRST_LIT_13`: nibble 13 (R100, R265). -/
def execFirstLit13 (s : State) : Host.Outcome State Fault Refusal := atTable .firstLit (firstNibble 13) s

/-- `FIRST_LIT_14`: nibble 14 (R100, R265). -/
def execFirstLit14 (s : State) : Host.Outcome State Fault Refusal := atTable .firstLit (firstNibble 14) s

/-- `FIRST_LIT_15`: nibble 15 (R100, R265). -/
def execFirstLit15 (s : State) : Host.Outcome State Fault Refusal := atTable .firstLit (firstNibble 15) s

/-! ### Greater nibbles, literal style (R100, R266) -/

/-- `GREATER_LIT_0`: nibble 0 (R100, R266). -/
def execGreaterLit0 (s : State) : Host.Outcome State Fault Refusal := atTable .greaterLit (greaterNibble 0) s

/-- `GREATER_LIT_1`: nibble 1 (R100, R266). -/
def execGreaterLit1 (s : State) : Host.Outcome State Fault Refusal := atTable .greaterLit (greaterNibble 1) s

/-- `GREATER_LIT_2`: nibble 2 (R100, R266). -/
def execGreaterLit2 (s : State) : Host.Outcome State Fault Refusal := atTable .greaterLit (greaterNibble 2) s

/-- `GREATER_LIT_3`: nibble 3 (R100, R266). -/
def execGreaterLit3 (s : State) : Host.Outcome State Fault Refusal := atTable .greaterLit (greaterNibble 3) s

/-- `GREATER_LIT_4`: nibble 4 (R100, R266). -/
def execGreaterLit4 (s : State) : Host.Outcome State Fault Refusal := atTable .greaterLit (greaterNibble 4) s

/-- `GREATER_LIT_5`: nibble 5 (R100, R266). -/
def execGreaterLit5 (s : State) : Host.Outcome State Fault Refusal := atTable .greaterLit (greaterNibble 5) s

/-- `GREATER_LIT_6`: nibble 6 (R100, R266). -/
def execGreaterLit6 (s : State) : Host.Outcome State Fault Refusal := atTable .greaterLit (greaterNibble 6) s

/-- `GREATER_LIT_7`: nibble 7 (R100, R266). -/
def execGreaterLit7 (s : State) : Host.Outcome State Fault Refusal := atTable .greaterLit (greaterNibble 7) s

/-- `GREATER_LIT_8`: nibble 8 (R100, R266). -/
def execGreaterLit8 (s : State) : Host.Outcome State Fault Refusal := atTable .greaterLit (greaterNibble 8) s

/-- `GREATER_LIT_9`: nibble 9 (R100, R266). -/
def execGreaterLit9 (s : State) : Host.Outcome State Fault Refusal := atTable .greaterLit (greaterNibble 9) s

/-- `GREATER_LIT_10`: nibble 10 (R100, R266). -/
def execGreaterLit10 (s : State) : Host.Outcome State Fault Refusal := atTable .greaterLit (greaterNibble 10) s

/-- `GREATER_LIT_11`: nibble 11 (R100, R266). -/
def execGreaterLit11 (s : State) : Host.Outcome State Fault Refusal := atTable .greaterLit (greaterNibble 11) s

/-- `GREATER_LIT_12`: nibble 12 (R100, R266). -/
def execGreaterLit12 (s : State) : Host.Outcome State Fault Refusal := atTable .greaterLit (greaterNibble 12) s

/-- `GREATER_LIT_13`: nibble 13 (R100, R266). -/
def execGreaterLit13 (s : State) : Host.Outcome State Fault Refusal := atTable .greaterLit (greaterNibble 13) s

/-- `GREATER_LIT_14`: nibble 14 (R100, R266). -/
def execGreaterLit14 (s : State) : Host.Outcome State Fault Refusal := atTable .greaterLit (greaterNibble 14) s

/-- `GREATER_LIT_15`: nibble 15 (R100, R266). -/
def execGreaterLit15 (s : State) : Host.Outcome State Fault Refusal := atTable .greaterLit (greaterNibble 15) s

/-! ### Mantissa header nibbles (R101, R267, R288) -/

/-- `HEADER_0`: nibble 0 (R101, R267, R288). -/
def execHeader0 (s : State) : Host.Outcome State Fault Refusal := atTable .header (headerNibble 0) s

/-- `HEADER_1`: nibble 1 (R101, R267, R288). -/
def execHeader1 (s : State) : Host.Outcome State Fault Refusal := atTable .header (headerNibble 1) s

/-- `HEADER_2`: nibble 2 (R101, R267, R288). -/
def execHeader2 (s : State) : Host.Outcome State Fault Refusal := atTable .header (headerNibble 2) s

/-- `HEADER_3`: nibble 3 (R101, R267, R288). -/
def execHeader3 (s : State) : Host.Outcome State Fault Refusal := atTable .header (headerNibble 3) s

/-- `HEADER_4`: nibble 4 (R101, R267, R288). -/
def execHeader4 (s : State) : Host.Outcome State Fault Refusal := atTable .header (headerNibble 4) s

/-- `HEADER_5`: nibble 5 (R101, R267, R288). -/
def execHeader5 (s : State) : Host.Outcome State Fault Refusal := atTable .header (headerNibble 5) s

/-- `HEADER_6`: nibble 6 (R101, R267, R288). -/
def execHeader6 (s : State) : Host.Outcome State Fault Refusal := atTable .header (headerNibble 6) s

/-- `HEADER_7`: nibble 7 (R101, R267, R288). -/
def execHeader7 (s : State) : Host.Outcome State Fault Refusal := atTable .header (headerNibble 7) s

/-- `HEADER_8`: nibble 8 (R101, R267, R288). -/
def execHeader8 (s : State) : Host.Outcome State Fault Refusal := atTable .header (headerNibble 8) s

/-- `HEADER_9`: nibble 9 (R101, R267, R288). -/
def execHeader9 (s : State) : Host.Outcome State Fault Refusal := atTable .header (headerNibble 9) s

/-- `HEADER_10`: nibble 10 (R101, R267, R288). -/
def execHeader10 (s : State) : Host.Outcome State Fault Refusal := atTable .header (headerNibble 10) s

/-- `HEADER_11`: nibble 11 (R101, R267, R288). -/
def execHeader11 (s : State) : Host.Outcome State Fault Refusal := atTable .header (headerNibble 11) s

/-- `HEADER_12`: nibble 12 (R101, R267, R288). -/
def execHeader12 (s : State) : Host.Outcome State Fault Refusal := atTable .header (headerNibble 12) s

/-- `HEADER_13`: nibble 13 (R101, R267, R288). -/
def execHeader13 (s : State) : Host.Outcome State Fault Refusal := atTable .header (headerNibble 13) s

/-- `HEADER_14`: nibble 14 (R101, R267, R288). -/
def execHeader14 (s : State) : Host.Outcome State Fault Refusal := atTable .header (headerNibble 14) s

/-- `HEADER_15`: nibble 15 (R101, R267, R288). -/
def execHeader15 (s : State) : Host.Outcome State Fault Refusal := atTable .header (headerNibble 15) s

/-! ### Distance mnemonic nibbles (R102, R287) -/

/-- `DIST_MNEMONIC_0`: nibble 0 (R102, R287). -/
def execDistMnemonic0 (s : State) : Host.Outcome State Fault Refusal := atTable .distMnemonic (mnemonicNibble 0) s

/-- `DIST_MNEMONIC_1`: nibble 1 (R102, R287). -/
def execDistMnemonic1 (s : State) : Host.Outcome State Fault Refusal := atTable .distMnemonic (mnemonicNibble 1) s

/-- `DIST_MNEMONIC_2`: nibble 2 (R102, R287). -/
def execDistMnemonic2 (s : State) : Host.Outcome State Fault Refusal := atTable .distMnemonic (mnemonicNibble 2) s

/-- `DIST_MNEMONIC_3`: nibble 3 (R102, R287). -/
def execDistMnemonic3 (s : State) : Host.Outcome State Fault Refusal := atTable .distMnemonic (mnemonicNibble 3) s

/-- `DIST_MNEMONIC_4`: nibble 4 (R102, R287). -/
def execDistMnemonic4 (s : State) : Host.Outcome State Fault Refusal := atTable .distMnemonic (mnemonicNibble 4) s

/-- `DIST_MNEMONIC_5`: nibble 5 (R102, R287). -/
def execDistMnemonic5 (s : State) : Host.Outcome State Fault Refusal := atTable .distMnemonic (mnemonicNibble 5) s

/-- `DIST_MNEMONIC_6`: nibble 6 (R102, R287). -/
def execDistMnemonic6 (s : State) : Host.Outcome State Fault Refusal := atTable .distMnemonic (mnemonicNibble 6) s

/-- `DIST_MNEMONIC_7`: nibble 7 (R102, R287). -/
def execDistMnemonic7 (s : State) : Host.Outcome State Fault Refusal := atTable .distMnemonic (mnemonicNibble 7) s

/-- `DIST_MNEMONIC_8`: nibble 8 (R102, R287). -/
def execDistMnemonic8 (s : State) : Host.Outcome State Fault Refusal := atTable .distMnemonic (mnemonicNibble 8) s

/-- `DIST_MNEMONIC_9`: nibble 9 (R102, R287). -/
def execDistMnemonic9 (s : State) : Host.Outcome State Fault Refusal := atTable .distMnemonic (mnemonicNibble 9) s

/-- `DIST_MNEMONIC_10`: nibble 10 (R102, R287). -/
def execDistMnemonic10 (s : State) : Host.Outcome State Fault Refusal := atTable .distMnemonic (mnemonicNibble 10) s

/-- `DIST_MNEMONIC_11`: nibble 11 (R102, R287). -/
def execDistMnemonic11 (s : State) : Host.Outcome State Fault Refusal := atTable .distMnemonic (mnemonicNibble 11) s

/-- `DIST_MNEMONIC_12`: nibble 12 (R102, R287). -/
def execDistMnemonic12 (s : State) : Host.Outcome State Fault Refusal := atTable .distMnemonic (mnemonicNibble 12) s

/-- `DIST_MNEMONIC_13`: nibble 13 (R102, R287). -/
def execDistMnemonic13 (s : State) : Host.Outcome State Fault Refusal := atTable .distMnemonic (mnemonicNibble 13) s

/-- `DIST_MNEMONIC_14`: nibble 14 (R102, R287). -/
def execDistMnemonic14 (s : State) : Host.Outcome State Fault Refusal := atTable .distMnemonic (mnemonicNibble 14) s

/-- `DIST_ESCAPE`: nibble 15 (R102, R287). -/
def execDistEscape (s : State) : Host.Outcome State Fault Refusal := atTable .distMnemonic (mnemonicEscape) s

/-! ### Context-map entry nibbles (R103, R322) -/

/-- `CMAP_LRU_0`: nibble 0 (R103, R322). -/
def execCmapLru0 (s : State) : Host.Outcome State Fault Refusal := atTable .cmapEntry (cmapRecent 0) s

/-- `CMAP_LRU_1`: nibble 1 (R103, R322). -/
def execCmapLru1 (s : State) : Host.Outcome State Fault Refusal := atTable .cmapEntry (cmapRecent 1) s

/-- `CMAP_LRU_2`: nibble 2 (R103, R322). -/
def execCmapLru2 (s : State) : Host.Outcome State Fault Refusal := atTable .cmapEntry (cmapRecent 2) s

/-- `CMAP_LRU_3`: nibble 3 (R103, R322). -/
def execCmapLru3 (s : State) : Host.Outcome State Fault Refusal := atTable .cmapEntry (cmapRecent 3) s

/-- `CMAP_LRU_4`: nibble 4 (R103, R322). -/
def execCmapLru4 (s : State) : Host.Outcome State Fault Refusal := atTable .cmapEntry (cmapRecent 4) s

/-- `CMAP_LRU_5`: nibble 5 (R103, R322). -/
def execCmapLru5 (s : State) : Host.Outcome State Fault Refusal := atTable .cmapEntry (cmapRecent 5) s

/-- `CMAP_LRU_6`: nibble 6 (R103, R322). -/
def execCmapLru6 (s : State) : Host.Outcome State Fault Refusal := atTable .cmapEntry (cmapRecent 6) s

/-- `CMAP_LRU_7`: nibble 7 (R103, R322). -/
def execCmapLru7 (s : State) : Host.Outcome State Fault Refusal := atTable .cmapEntry (cmapRecent 7) s

/-- `CMAP_LRU_8`: nibble 8 (R103, R322). -/
def execCmapLru8 (s : State) : Host.Outcome State Fault Refusal := atTable .cmapEntry (cmapRecent 8) s

/-- `CMAP_LRU_9`: nibble 9 (R103, R322). -/
def execCmapLru9 (s : State) : Host.Outcome State Fault Refusal := atTable .cmapEntry (cmapRecent 9) s

/-- `CMAP_LRU_10`: nibble 10 (R103, R322). -/
def execCmapLru10 (s : State) : Host.Outcome State Fault Refusal := atTable .cmapEntry (cmapRecent 10) s

/-- `CMAP_LRU_11`: nibble 11 (R103, R322). -/
def execCmapLru11 (s : State) : Host.Outcome State Fault Refusal := atTable .cmapEntry (cmapRecent 11) s

/-- `CMAP_LRU_12`: nibble 12 (R103, R322). -/
def execCmapLru12 (s : State) : Host.Outcome State Fault Refusal := atTable .cmapEntry (cmapRecent 12) s

/-- `CMAP_EXPLICIT`: nibble 13 (R103, R322). -/
def execCmapExplicit (s : State) : Host.Outcome State Fault Refusal := atTable .cmapEntry (cmapEscape) s

/-- `CMAP_RESERVED_14`: nibble 14 (R103, R322). -/
def execCmapReserved14 (s : State) : Host.Outcome State Fault Refusal := atTable .cmapEntry (raise .reservedNibbleCode) s

/-- `CMAP_RESERVED_15`: nibble 15 (R103, R322). -/
def execCmapReserved15 (s : State) : Host.Outcome State Fault Refusal := atTable .cmapEntry (raise .reservedNibbleCode) s

/-! ### High-entropy nibbles (R104, R304) -/

/-- `HE_0`: nibble 0 (R104, R304). -/
def execHe0 (s : State) : Host.Outcome State Fault Refusal := atTable .highEntropy (highEntropyFlag false) s

/-- `HE_1`: nibble 1 (R104, R304). -/
def execHe1 (s : State) : Host.Outcome State Fault Refusal := atTable .highEntropy (highEntropyFlag true) s

/-- `HE_2`: nibble 2 (R104, R304). -/
def execHe2 (s : State) : Host.Outcome State Fault Refusal := atTable .highEntropy (raise .reservedNibbleCode) s

/-- `HE_3`: nibble 3 (R104, R304). -/
def execHe3 (s : State) : Host.Outcome State Fault Refusal := atTable .highEntropy (raise .reservedNibbleCode) s

/-- `HE_4`: nibble 4 (R104, R304). -/
def execHe4 (s : State) : Host.Outcome State Fault Refusal := atTable .highEntropy (raise .reservedNibbleCode) s

/-- `HE_5`: nibble 5 (R104, R304). -/
def execHe5 (s : State) : Host.Outcome State Fault Refusal := atTable .highEntropy (raise .reservedNibbleCode) s

/-- `HE_6`: nibble 6 (R104, R304). -/
def execHe6 (s : State) : Host.Outcome State Fault Refusal := atTable .highEntropy (raise .reservedNibbleCode) s

/-- `HE_7`: nibble 7 (R104, R304). -/
def execHe7 (s : State) : Host.Outcome State Fault Refusal := atTable .highEntropy (raise .reservedNibbleCode) s

/-- `HE_8`: nibble 8 (R104, R304). -/
def execHe8 (s : State) : Host.Outcome State Fault Refusal := atTable .highEntropy (raise .reservedNibbleCode) s

/-- `HE_9`: nibble 9 (R104, R304). -/
def execHe9 (s : State) : Host.Outcome State Fault Refusal := atTable .highEntropy (raise .reservedNibbleCode) s

/-- `HE_10`: nibble 10 (R104, R304). -/
def execHe10 (s : State) : Host.Outcome State Fault Refusal := atTable .highEntropy (raise .reservedNibbleCode) s

/-- `HE_11`: nibble 11 (R104, R304). -/
def execHe11 (s : State) : Host.Outcome State Fault Refusal := atTable .highEntropy (raise .reservedNibbleCode) s

/-- `HE_12`: nibble 12 (R104, R304). -/
def execHe12 (s : State) : Host.Outcome State Fault Refusal := atTable .highEntropy (raise .reservedNibbleCode) s

/-- `HE_13`: nibble 13 (R104, R304). -/
def execHe13 (s : State) : Host.Outcome State Fault Refusal := atTable .highEntropy (raise .reservedNibbleCode) s

/-- `HE_14`: nibble 14 (R104, R304). -/
def execHe14 (s : State) : Host.Outcome State Fault Refusal := atTable .highEntropy (raise .reservedNibbleCode) s

/-- `HE_15`: nibble 15 (R104, R304). -/
def execHe15 (s : State) : Host.Outcome State Fault Refusal := atTable .highEntropy (raise .reservedNibbleCode) s

/-! ### Prediction-mode nibbles (R104, R320) -/

/-- `PM_0`: nibble 0 (R104, R320). -/
def execPm0 (s : State) : Host.Outcome State Fault Refusal := atTable .predMode (predModeField 0) s

/-- `PM_1`: nibble 1 (R104, R320). -/
def execPm1 (s : State) : Host.Outcome State Fault Refusal := atTable .predMode (predModeField 1) s

/-- `PM_2`: nibble 2 (R104, R320). -/
def execPm2 (s : State) : Host.Outcome State Fault Refusal := atTable .predMode (predModeField 2) s

/-- `PM_3`: nibble 3 (R104, R320). -/
def execPm3 (s : State) : Host.Outcome State Fault Refusal := atTable .predMode (predModeField 3) s

/-- `PM_4`: nibble 4 (R104, R320). -/
def execPm4 (s : State) : Host.Outcome State Fault Refusal := atTable .predMode (raise .predictionModeOutOfRange) s

/-- `PM_5`: nibble 5 (R104, R320). -/
def execPm5 (s : State) : Host.Outcome State Fault Refusal := atTable .predMode (raise .predictionModeOutOfRange) s

/-- `PM_6`: nibble 6 (R104, R320). -/
def execPm6 (s : State) : Host.Outcome State Fault Refusal := atTable .predMode (raise .predictionModeOutOfRange) s

/-- `PM_7`: nibble 7 (R104, R320). -/
def execPm7 (s : State) : Host.Outcome State Fault Refusal := atTable .predMode (raise .predictionModeOutOfRange) s

/-- `PM_8`: nibble 8 (R104, R320). -/
def execPm8 (s : State) : Host.Outcome State Fault Refusal := atTable .predMode (raise .predictionModeOutOfRange) s

/-- `PM_9`: nibble 9 (R104, R320). -/
def execPm9 (s : State) : Host.Outcome State Fault Refusal := atTable .predMode (raise .predictionModeOutOfRange) s

/-- `PM_10`: nibble 10 (R104, R320). -/
def execPm10 (s : State) : Host.Outcome State Fault Refusal := atTable .predMode (raise .predictionModeOutOfRange) s

/-- `PM_11`: nibble 11 (R104, R320). -/
def execPm11 (s : State) : Host.Outcome State Fault Refusal := atTable .predMode (raise .predictionModeOutOfRange) s

/-- `PM_12`: nibble 12 (R104, R320). -/
def execPm12 (s : State) : Host.Outcome State Fault Refusal := atTable .predMode (raise .predictionModeOutOfRange) s

/-- `PM_13`: nibble 13 (R104, R320). -/
def execPm13 (s : State) : Host.Outcome State Fault Refusal := atTable .predMode (raise .predictionModeOutOfRange) s

/-- `PM_14`: nibble 14 (R104, R320). -/
def execPm14 (s : State) : Host.Outcome State Fault Refusal := atTable .predMode (raise .predictionModeOutOfRange) s

/-- `PM_15`: nibble 15 (R104, R320). -/
def execPm15 (s : State) : Host.Outcome State Fault Refusal := atTable .predMode (raise .predictionModeOutOfRange) s

/-! ### Speed nibbles (R104, R320) -/

/-- `SPEED_0`: nibble 0 (R104, R320). -/
def execSpeed0 (s : State) : Host.Outcome State Fault Refusal := atTable .speed (speedField 0) s

/-- `SPEED_1`: nibble 1 (R104, R320). -/
def execSpeed1 (s : State) : Host.Outcome State Fault Refusal := atTable .speed (speedField 1) s

/-- `SPEED_2`: nibble 2 (R104, R320). -/
def execSpeed2 (s : State) : Host.Outcome State Fault Refusal := atTable .speed (speedField 2) s

/-- `SPEED_3`: nibble 3 (R104, R320). -/
def execSpeed3 (s : State) : Host.Outcome State Fault Refusal := atTable .speed (speedField 3) s

/-- `SPEED_4`: nibble 4 (R104, R320). -/
def execSpeed4 (s : State) : Host.Outcome State Fault Refusal := atTable .speed (speedField 4) s

/-- `SPEED_5`: nibble 5 (R104, R320). -/
def execSpeed5 (s : State) : Host.Outcome State Fault Refusal := atTable .speed (speedField 5) s

/-- `SPEED_6`: nibble 6 (R104, R320). -/
def execSpeed6 (s : State) : Host.Outcome State Fault Refusal := atTable .speed (speedField 6) s

/-- `SPEED_7`: nibble 7 (R104, R320). -/
def execSpeed7 (s : State) : Host.Outcome State Fault Refusal := atTable .speed (speedField 7) s

/-- `SPEED_8`: nibble 8 (R104, R320). -/
def execSpeed8 (s : State) : Host.Outcome State Fault Refusal := atTable .speed (raise .reservedNibbleCode) s

/-- `SPEED_9`: nibble 9 (R104, R320). -/
def execSpeed9 (s : State) : Host.Outcome State Fault Refusal := atTable .speed (raise .reservedNibbleCode) s

/-- `SPEED_10`: nibble 10 (R104, R320). -/
def execSpeed10 (s : State) : Host.Outcome State Fault Refusal := atTable .speed (raise .reservedNibbleCode) s

/-- `SPEED_11`: nibble 11 (R104, R320). -/
def execSpeed11 (s : State) : Host.Outcome State Fault Refusal := atTable .speed (raise .reservedNibbleCode) s

/-- `SPEED_12`: nibble 12 (R104, R320). -/
def execSpeed12 (s : State) : Host.Outcome State Fault Refusal := atTable .speed (raise .reservedNibbleCode) s

/-- `SPEED_13`: nibble 13 (R104, R320). -/
def execSpeed13 (s : State) : Host.Outcome State Fault Refusal := atTable .speed (raise .reservedNibbleCode) s

/-- `SPEED_14`: nibble 14 (R104, R320). -/
def execSpeed14 (s : State) : Host.Outcome State Fault Refusal := atTable .speed (raise .reservedNibbleCode) s

/-- `SPEED_15`: nibble 15 (R104, R320). -/
def execSpeed15 (s : State) : Host.Outcome State Fault Refusal := atTable .speed (raise .reservedNibbleCode) s

/-! ### The tables -/

/-- The meanings of the table `cmdType`, nibble 0 first (R97, R301). -/
def cmdTypeRows : List (State → Host.Outcome State Fault Refusal) :=
  [execCmdReserved0, execCmdCopy, execCmdDict, execCmdLiteral,
   execCmdBlockswitchLiteral, execCmdBlockswitchCommand, execCmdBlockswitchDistance, execCmdPredictionMode,
   execCmdReserved8, execCmdReserved9, execCmdReserved10, execCmdReserved11,
   execCmdReserved12, execCmdReserved13, execCmdReserved14, execCmdEof]

/-- The meanings of the table `small`, nibble 0 first (R99, R264). -/
def smallRows : List (State → Host.Outcome State Fault Refusal) :=
  [execSmallValue0, execSmallValue1, execSmallValue2, execSmallValue3,
   execSmallValue4, execSmallValue5, execSmallValue6, execSmallValue7,
   execSmallValue8, execSmallValue9, execSmallFirst, execSmallGreater,
   execSmallRepeat, execSmallMantissa, execSmallReserved14, execSmallReserved15]

/-- The meanings of the table `firstCopy`, nibble 0 first (R100, R265). -/
def firstCopyRows : List (State → Host.Outcome State Fault Refusal) :=
  [execFirstCopy0, execFirstCopy1, execFirstCopy2, execFirstCopy3,
   execFirstCopy4, execFirstCopy5, execFirstCopy6, execFirstCopy7,
   execFirstCopy8, execFirstCopy9, execFirstCopy10, execFirstCopy11,
   execFirstCopy12, execFirstCopy13, execFirstCopy14, execFirstCopy15]

/-- The meanings of the table `greaterCopy`, nibble 0 first (R100, R266). -/
def greaterCopyRows : List (State → Host.Outcome State Fault Refusal) :=
  [execGreaterCopy0, execGreaterCopy1, execGreaterCopy2, execGreaterCopy3,
   execGreaterCopy4, execGreaterCopy5, execGreaterCopy6, execGreaterCopy7,
   execGreaterCopy8, execGreaterCopy9, execGreaterCopy10, execGreaterCopy11,
   execGreaterCopy12, execGreaterCopy13, execGreaterCopy14, execGreaterCopy15]

/-- The meanings of the table `firstLit`, nibble 0 first (R100, R265). -/
def firstLitRows : List (State → Host.Outcome State Fault Refusal) :=
  [execFirstLit0, execFirstLit1, execFirstLit2, execFirstLit3,
   execFirstLit4, execFirstLit5, execFirstLit6, execFirstLit7,
   execFirstLit8, execFirstLit9, execFirstLit10, execFirstLit11,
   execFirstLit12, execFirstLit13, execFirstLit14, execFirstLit15]

/-- The meanings of the table `greaterLit`, nibble 0 first (R100, R266). -/
def greaterLitRows : List (State → Host.Outcome State Fault Refusal) :=
  [execGreaterLit0, execGreaterLit1, execGreaterLit2, execGreaterLit3,
   execGreaterLit4, execGreaterLit5, execGreaterLit6, execGreaterLit7,
   execGreaterLit8, execGreaterLit9, execGreaterLit10, execGreaterLit11,
   execGreaterLit12, execGreaterLit13, execGreaterLit14, execGreaterLit15]

/-- The meanings of the table `header`, nibble 0 first (R101, R267, R288). -/
def headerRows : List (State → Host.Outcome State Fault Refusal) :=
  [execHeader0, execHeader1, execHeader2, execHeader3,
   execHeader4, execHeader5, execHeader6, execHeader7,
   execHeader8, execHeader9, execHeader10, execHeader11,
   execHeader12, execHeader13, execHeader14, execHeader15]

/-- The meanings of the table `distMnemonic`, nibble 0 first (R102, R287). -/
def distMnemonicRows : List (State → Host.Outcome State Fault Refusal) :=
  [execDistMnemonic0, execDistMnemonic1, execDistMnemonic2, execDistMnemonic3,
   execDistMnemonic4, execDistMnemonic5, execDistMnemonic6, execDistMnemonic7,
   execDistMnemonic8, execDistMnemonic9, execDistMnemonic10, execDistMnemonic11,
   execDistMnemonic12, execDistMnemonic13, execDistMnemonic14, execDistEscape]

/-- The meanings of the table `cmapEntry`, nibble 0 first (R103, R322). -/
def cmapEntryRows : List (State → Host.Outcome State Fault Refusal) :=
  [execCmapLru0, execCmapLru1, execCmapLru2, execCmapLru3,
   execCmapLru4, execCmapLru5, execCmapLru6, execCmapLru7,
   execCmapLru8, execCmapLru9, execCmapLru10, execCmapLru11,
   execCmapLru12, execCmapExplicit, execCmapReserved14, execCmapReserved15]

/-- The meanings of the table `highEntropy`, nibble 0 first (R104, R304). -/
def highEntropyRows : List (State → Host.Outcome State Fault Refusal) :=
  [execHe0, execHe1, execHe2, execHe3,
   execHe4, execHe5, execHe6, execHe7,
   execHe8, execHe9, execHe10, execHe11,
   execHe12, execHe13, execHe14, execHe15]

/-- The meanings of the table `predMode`, nibble 0 first (R104, R320). -/
def predModeRows : List (State → Host.Outcome State Fault Refusal) :=
  [execPm0, execPm1, execPm2, execPm3,
   execPm4, execPm5, execPm6, execPm7,
   execPm8, execPm9, execPm10, execPm11,
   execPm12, execPm13, execPm14, execPm15]

/-- The meanings of the table `speed`, nibble 0 first (R104, R320). -/
def speedRows : List (State → Host.Outcome State Fault Refusal) :=
  [execSpeed0, execSpeed1, execSpeed2, execSpeed3,
   execSpeed4, execSpeed5, execSpeed6, execSpeed7,
   execSpeed8, execSpeed9, execSpeed10, execSpeed11,
   execSpeed12, execSpeed13, execSpeed14, execSpeed15]

/-- The rows of a value table. -/
def tableRows : NibbleTable → List (State → Host.Outcome State Fault Refusal)
  | .cmdType => cmdTypeRows
  | .small => smallRows
  | .firstCopy => firstCopyRows
  | .greaterCopy => greaterCopyRows
  | .firstLit => firstLitRows
  | .greaterLit => greaterLitRows
  | .header => headerRows
  | .distMnemonic => distMnemonicRows
  | .cmapEntry => cmapEntryRows
  | .highEntropy => highEntropyRows
  | .predMode => predModeRows
  | .speed => speedRows

/-- The meaning of the nibble `v` read by the table `t`. -/
def nibbleMeaning (t : NibbleTable) (v : Nibble) (s : State) : Host.Outcome State Fault Refusal :=
  match (tableRows t)[v.toNat]? with
  | some row => row s
  | none => .refused .nibbleOutOfPlace

end Sys2Proof.Machine
end

