-- ==== Sys2Proof/Machine/Commands.lean ====
section
/-! DEFINITION. The codec steps (R260, R300) and the operations that run them: `ENCODE_CMD` (R344) and `DECODE_CMD`
(R345). A step codes its nibble (R262) and then does what the row of that nibble says. -/

namespace Sys2Proof.Machine

/-! ### Steps of a value table -/

/-- Do the row of the nibble `v` inside a running command; a failing row ends the command. -/
def applyRow (t : NibbleTable) (v : Nibble) (s : State) : Reply Unit :=
  match nibbleMeaning t v s with
  | .next s => if s.ctl.failed then .fail s else .ok () s
  | .fault f => .fault f
  | .refused r => .refused r

/-- Code a nibble of the table `t` and do its row. -/
def tableStep (t : NibbleTable) (a : Nat) (speed : BitVec 3) (want : Nibble) (s : State) : Reply Unit :=
  (codeNibble a speed want s).bind fun v s => applyRow t v s

/-- A stage of a tiered integer (R264 to R268). -/
def intStep (u : IntUser) (stage : IntStage) (s : State) : Reply Unit :=
  match stage with
  | .mantissaNibbles ld lr dsf =>
    (codeNibble (u.prior s stage.pos) stage.speed (u.want stage s) s).bind fun n s =>
      mantissaNibble u ld lr dsf n s
  | .small => tableStep .small (u.prior s stage.pos) stage.speed (u.want stage s) s
  | .first =>
    tableStep (if u.copyStyle then .firstCopy else .firstLit) (u.prior s stage.pos) stage.speed
      (u.want stage s) s
  | .greater =>
    tableStep (if u.copyStyle then .greaterCopy else .greaterLit) (u.prior s stage.pos) stage.speed
      (u.want stage s) s
  | .mantissaHeader => tableStep .header (u.prior s stage.pos) stage.speed (u.want stage s) s

/-- The type step (R301). -/
def typeStep (s : State) : Reply Unit :=
  tableStep .cmdType (priorCmdType s.ctx.btypeCmd.toNat s.ctx.lastCmd.toNat) speedFast s.codec.cmd.kind s

/-- The step `Begin`: the first coding substate of the kind (R280, R303, R316, R317, R320, R330). The type step lets
no other kind through (log 11). -/
def beginStep (s : State) : Reply Unit :=
  match s.codec.cmd.kind.toNat with
  | 1 => .ok () (s.goto .countSmall)
  | 2 => .ok () (s.goto (.dictField 0 .small))
  | 3 => .ok () (s.goto .literalCountSmall)
  | 4 => .ok () (s.goto .blockTypeHigh)
  | 5 => .ok () (s.goto .blockTypeHigh)
  | 6 => .ok () (s.goto .blockTypeHigh)
  | 7 => .ok () (s.goto .predMode)
  | 15 => .ok () (s.goto .fullyDecoded)
  | _ => raise .malformedCommandType s

/-! ### Copy -/

/-- `dctx` of R285. -/
def distanceContext (numBytes : Nat) : Nat :=
  if numBytes ≤ 2 then 0 else if numBytes = 3 then 1 else if numBytes = 4 then 2 else 3

/-- The index into a context map: the block type above `width` context bits (R285, R310). -/
def cmapIndex (btype : Byte) (width ctx : Nat) : Nat := (btype.toNat * 2 ^ width) ||| ctx

/-- Look a slot up in a context map of length `len`; 0 when there is none (R285, R310). -/
def cmapSlot (map : Memory Byte) (len idx : Nat) (s : State) (k : Nat → Reply Unit) : Reply Unit :=
  if len = 0 then k 0
  else if len ≤ idx then raise .contextMapIndexOutOfRange s
  else k (Memory.read 0 map idx).toNat

/-- `DistSlot()` (R285). -/
def withDistSlot (s : State) (k : Nat → Reply Unit) : Reply Unit :=
  cmapSlot s.ctx.distCmap s.ctx.distCmapLen.toNat
    (cmapIndex s.ctx.btypeDist 2 (distanceContext s.codec.cmd.numBytes.toNat)) s k

/-- The step `CountDecoded` (R285). -/
def countDecodedStep (s : State) : Reply Unit :=
  withDistSlot s fun _ => .ok () (s.goto .distanceLengthMnemonic)

/-- The mnemonic an encoder chooses: the least that is valid and equal to the distance, else 15 (R287). -/
def mnemonicWant (lru : Vector (BitVec 32) 4) (d : BitVec 32) : Nibble :=
  BitVec.ofNat 4 (leastIndex 15 fun m =>
    let v := mnemonicValue lru (Fin.ofNat 15 m)
    validDistance v && decide (v = (d.toNat : Int)))

/-- The step `DistanceLengthMnemonic` (R287). -/
def distanceMnemonicStep (s : State) : Reply Unit :=
  withDistSlot s fun slot =>
    tableStep .distMnemonic (priorDistance slot 0) speedFast
      (mnemonicWant s.ctx.distanceLru s.codec.cmd.distance) s

/-- The step `DistanceLengthFirst` (R288). -/
def distanceHeaderStep (s : State) : Reply Unit :=
  withDistSlot s fun slot =>
    tableStep .header (priorDistance slot 1) speedMed
      (BitVec.ofNat 4 (nibbleCount s.codec.cmd.distance.toNat - 1)) s

/-- The step `DistanceMantissaNibbles(ld, lr, dsf)` (R289). -/
def distanceMantissaStep (ld lr : BitVec 4) (dsf : BitVec 32) (s : State) : Reply Unit :=
  withDistSlot s fun slot =>
    (codeNibble (priorDistance slot (2 + ld.toNat)) speedSlow
      (mantissaWant s.codec.cmd.distance.toNat lr dsf) s).bind fun n s => distanceNibble ld lr dsf n s

/-! ### Literal -/

/-- `ctx6` of R310; for modes 2 and 3 the open parameter `CTX6` (log 3). -/
def literalContext (mode : BitVec 2) (p1 p2 : Byte) : Nat :=
  if mode = 0 then p1.toNat % 64
  else if mode = 1 then p1.toNat / 4
  else (Config.ctx6 mode p1 p2).toNat

/-- `LitSlot()` (R310). -/
def withLitSlot (s : State) (k : Nat → Reply Unit) : Reply Unit :=
  cmapSlot s.ctx.litCmap s.ctx.litCmapLen.toNat
    (cmapIndex s.ctx.btypeLit 6 (literalContext s.ctx.predMode s.ctx.hist[0] s.ctx.hist[1])) s k

/-- Byte `j` of the literal's data. -/
def dataByte (c : Command) (j : Nat) : Byte := (c.data[j]?).getD 0

/-- The nibble of `b` with index `ni`: 0 high, 1 low (R311). -/
def nibbleOf (b : Byte) (ni : Nat) : Nibble := if ni = 0 then b.extractLsb' 4 4 else b.extractLsb' 0 4

/-- Byte completion (R315): the byte enters `hist` at the front. -/
def histPush (hist : Vector Byte 8) (b : Byte) : Vector Byte 8 :=
  Vector.ofFn fun t => if t.val = 0 then b else (hist[t.val - 1]?).getD 0

/-- The end of a literal nibble step: the decoded data, the byte completion and the next substate (R311, R312). -/
def literalDone (idx : BitVec 33) (v : Nibble) (s : State) : State :=
  let j := idx.toNat / 2
  let ni := idx.toNat % 2
  let old := dataByte s.codec.cmd j
  let new : Byte := if ni = 0 then v ++ (0 : Nibble) else old ||| v.setWidth 8
  let s := if s.isDecode then s.setCmd fun c => { c with data := c.data.set j new } else s
  let s :=
    if ni = 1 then s.setCtx fun x => { x with hist := histPush x.hist (dataByte s.codec.cmd j) } else s
  if 2 * s.codec.cmd.len.toNat ≤ idx.toNat + 1 then s.goto .fullyDecoded
  else s.goto (.literalNibbleIndex (idx + 1))

/-- The step `LiteralNibbleIndex(idx)` of a high-entropy literal (R312). -/
def literalUniformStep (idx : BitVec 33) (s : State) : Reply Unit :=
  (codeAgainst defaultCdf (nibbleOf (dataByte s.codec.cmd (idx.toNat / 2)) (idx.toNat % 2)) s).bind
    fun v s => .ok () (literalDone idx v s)

/-- The weight after a nibble whose scaled probabilities under the two models were `fa` and `fb` (R313). -/
def weightUpdate (w fa fb : Nat) : Nat :=
  if fb < fa then w + (32768 - w) / 2 ^ Config.weightShift
  else if fa < fb then w - w / 2 ^ Config.weightShift
  else w

/-- The probability of `v` under a cell on the 15-bit scale (R313). -/
def scaledPdf (x : Cdf16) (v : Nat) : Nat := pdf x v * 32768 / cdfTotal x

/-- `weights[ni][hctx]` (R30). -/
def Context.weight (x : Context) (ni hctx : Nat) : BitVec 16 := (x.weights[16 * ni + hctx]?).getD 0

/-- Write `weights[ni][hctx]` (R30). -/
def Context.setWeight (ni hctx : Nat) (w : BitVec 16) (x : Context) : Context :=
  { x with weights := Vector.ofFn fun i => if i.val = 16 * ni + hctx then w else x.weights[i] }

/-- The updates after a mixed literal nibble `v`: the weight, then the two cells (R311, R313). -/
def mixedUpdate (ni hctx a b : Nat) (v : Nibble) (s : State) : State :=
  let fa := scaledPdf (s.prior a) v.toNat
  let fb := scaledPdf (s.prior b) v.toNat
  let w := weightUpdate (s.ctx.weight ni hctx).toNat fa fb
  let s := s.setCtx (Context.setWeight ni hctx (BitVec.ofNat 16 w))
  let s := s.setPrior a (blend (s.prior a) v.toNat s.ctx.speedStride)
  s.setPrior b (blend (s.prior b) v.toNat s.ctx.speedCm)

/-- `hist[CFG.STRIDE_M1]` (R311). -/
def State.strideByte (s : State) : Byte := (s.ctx.hist[s.strideM1.toNat]?).getD 0

/-- The step `LiteralNibbleIndex(idx)` of a mixed literal (R311). -/
def literalMixedStep (idx : BitVec 33) (s : State) : Reply Unit :=
  let byte := dataByte s.codec.cmd (idx.toNat / 2)
  let ni := idx.toNat % 2
  let hctx := if ni = 0 then 0 else byte.toNat / 16
  withLitSlot s fun slot =>
    let a := priorLitStride s.strideByte.toNat ni hctx
    let b := priorLitCm slot ni hctx
    let mix := average (s.prior a) (s.prior b) (s.ctx.weight ni hctx).toNat
    (codeAgainst mix (nibbleOf byte ni) (s.setMix mix)).bind fun v s =>
      .ok () (literalDone idx v (mixedUpdate ni hctx a b v s))

/-- The step `LiteralNibbleIndex(idx)` (R311, R312). -/
def literalStep (idx : BitVec 33) (s : State) : Reply Unit :=
  if s.codec.cmd.highEntropy then literalUniformStep idx s else literalMixedStep idx s

/-- The step `LiteralHighEntropy` (R304). -/
def literalFlagStep (s : State) : Reply Unit :=
  tableStep .highEntropy (priorLitHe s.ctx.btypeLit.toNat) speedMed
    (if s.codec.cmd.highEntropy then 1 else 0) s

/-! ### Block switch -/

/-- `kix` (R317). -/
def blockKind (c : Command) : Nat := c.kind.toNat - 4

/-- In a decode session change the command; an encoder's command is given (R317, R322). -/
def State.setDecoded (f : Command → Command) (s : State) : State := if s.isDecode then s.setCmd f else s

/-- The step `BlockTypeHigh` (R317). -/
def blockHighStep (s : State) : Reply Unit :=
  (codeNibble (priorBlockSwitch (blockKind s.codec.cmd) 0 0) speedMed (nibbleOf s.codec.cmd.blockType 0) s).bind
    fun hi s => .ok () ((s.setDecoded fun c => { c with blockType := hi ++ (0 : Nibble) }).goto .blockTypeLow)

/-- The block type of the command takes effect (R317). -/
def State.switchBlock (s : State) : State :=
  let b := s.codec.cmd.blockType
  match blockKind s.codec.cmd with
  | 0 => s.setCtx fun x => { x with btypeLit := b }
  | 1 => s.setCtx fun x => { x with btypeCmd := b }
  | 2 => s.setCtx fun x => { x with btypeDist := b }
  | _ => s

/-- The step `BlockTypeLow` (R317). -/
def blockLowStep (s : State) : Reply Unit :=
  let hi := nibbleOf s.codec.cmd.blockType 0
  (codeNibble (priorBlockSwitch (blockKind s.codec.cmd) 1 hi.toNat) speedMed
    (nibbleOf s.codec.cmd.blockType 1) s).bind fun lo s =>
      .ok () ((s.setDecoded fun c => { c with blockType := hi ++ lo }).switchBlock.goto .fullyDecoded)

/-! ### Prediction mode -/

/-- The step `PredMode` (R320). -/
def predModeStep (s : State) : Reply Unit :=
  tableStep .predMode (priorPredMode 0) speedMed (s.codec.cmd.pm.setWidth 4) s

/-- The step `PredSpeedStride` (R320). -/
def predSpeedStrideStep (s : State) : Reply Unit :=
  tableStep .speed (priorPredMode 1) speedMed (s.codec.cmd.speedStride.setWidth 4) s

/-- The step `PredSpeedCm` (R320). -/
def predSpeedCmStep (s : State) : Reply Unit :=
  tableStep .speed (priorPredMode 2) speedMed (s.codec.cmd.speedCm.setWidth 4) s

/-- Entry `j` of a map of the command (R322). -/
def mapEntry (mi : MapId) (j : Nat) (c : Command) : Byte := ((commandMap c mi)[j]?).getD 0

/-- Replace entry `j` of a map of the command. -/
def setMapEntry (mi : MapId) (j : Nat) (e : Byte) (c : Command) : Command :=
  setCommandMap mi ((commandMap c mi).set j e) c

/-- The map mnemonic an encoder chooses: the least `m` with `cmap_lru[m] = e`, else 13 (R322). -/
def cmapWant (lru : Vector Byte 13) (e : Byte) : Nibble :=
  BitVec.ofNat 4 (leastIndex 13 fun m => decide (lru[m]? = some e))

/-- The step `MapEntryMnemonic(mi, j)` (R322). -/
def mapMnemonicStep (mi : MapId) (j : Nat) (s : State) : Reply Unit :=
  tableStep .cmapEntry (priorCmapEntry mi.index 0) speedFast
    (cmapWant s.ctx.cmapLru (mapEntry mi j s.codec.cmd)) s

/-- The step `MapEntryHigh(mi, j)` (R322). -/
def mapHighStep (mi : MapId) (j : Nat) (s : State) : Reply Unit :=
  (codeNibble (priorCmapEntry mi.index 1) speedMed (nibbleOf (mapEntry mi j s.codec.cmd) 0) s).bind
    fun hi s => .ok () ((s.setDecoded (setMapEntry mi j (hi ++ (0 : Nibble)))).goto (.mapEntryLow mi j))

/-- The step `MapEntryLow(mi, j)` (R322). -/
def mapLowStep (mi : MapId) (j : Nat) (s : State) : Reply Unit :=
  let hi := nibbleOf (mapEntry mi j s.codec.cmd) 0
  (codeNibble (priorCmapEntry mi.index (2 + hi.toNat)) speedMed (nibbleOf (mapEntry mi j s.codec.cmd) 1) s).bind
    fun lo s =>
      let e : Byte := if s.isDecode then hi ++ lo else mapEntry mi j s.codec.cmd
      .ok () (entryDone mi j e s)

/-! ### The loop -/

/-- The step `FullyDecoded` (R302). -/
def fullyDecodedStep (s : State) : State :=
  if s.codec.cmd.kind = 15 then
    { s with
      ctx := { s.ctx with eofSeen := true }
      codec := { s.codec with top := .topEof, substate := .begin } }
  else { s with codec := { s.codec with top := .topBegin, substate := .begin } }

/-- The step a substate names (R300); `FullyDecoded` is left to the loop. -/
def substateStep (s : State) : Reply Unit :=
  match s.codec.substate with
  | .begin => beginStep s
  | .countSmall => intStep .copyCount .small s
  | .countLengthFirst => intStep .copyCount .first s
  | .countLengthGreater18Less25 => intStep .copyCount .greater s
  | .countMantissaHeader => intStep .copyCount .mantissaHeader s
  | .countMantissaNibbles ld lr dsf => intStep .copyCount (.mantissaNibbles ld lr dsf) s
  | .countDecoded => countDecodedStep s
  | .distanceLengthMnemonic => distanceMnemonicStep s
  | .distanceLengthFirst => distanceHeaderStep s
  | .distanceMantissaNibbles ld lr dsf => distanceMantissaStep ld lr dsf s
  | .literalCountSmall => intStep .literalLen .small s
  | .literalCountFirst => intStep .literalLen .first s
  | .literalCountLengthGreater14Less25 => intStep .literalLen .greater s
  | .literalCountMantissaHeader => intStep .literalLen .mantissaHeader s
  | .literalCountMantissaNibbles ld lr dsf => intStep .literalLen (.mantissaNibbles ld lr dsf) s
  | .literalHighEntropy => literalFlagStep s
  | .literalNibbleIndex idx => literalStep idx s
  | .dictField f stage => intStep (.dictField f) stage s
  | .blockTypeHigh => blockHighStep s
  | .blockTypeLow => blockLowStep s
  | .predMode => predModeStep s
  | .predSpeedStride => predSpeedStrideStep s
  | .predSpeedCm => predSpeedCmStep s
  | .mapCount mi stage => intStep (.mapCount mi) stage s
  | .mapEntryMnemonic mi j => mapMnemonicStep mi j s
  | .mapEntryHigh mi j => mapHighStep mi j s
  | .mapEntryLow mi j => mapLowStep mi j s
  | .fullyDecoded => .ok () s

/-- The codec step `top_state` and `substate` select (R300). -/
def codecStep (s : State) : Reply Unit :=
  match s.codec.top with
  | .topBegin => typeStep s
  | .inCommand => substateStep s
  | .topEof => raise .protocolViolation s

/-- Run codec steps until the command is complete, a queue blocks or a step fails (R344, R345). -/
def runCodec : Nat → State → Reply Unit
  | 0, _ => .fault .codecStepBound
  | n + 1, s =>
    if s.codec.top = .inCommand ∧ s.codec.substate = .fullyDecoded then .ok () (fullyDecodedStep s)
    else (codecStep s).bind fun _ s => runCodec n s

/-- More steps than a command can have (log 11): at most `2^33` literal nibbles, three for each map entry, and
fewer than 100 others. -/
def State.codecFuel (s : State) : Nat :=
  2 ^ 34 + 4 * (s.codec.cmd.litMap.length + s.codec.cmd.distMap.length)

/-! ### The operations -/

/-- The validation of the operand of `ENCODE_CMD` (R344). -/
def validCommand (c : Command) : Bool :=
  decide (c.kind.toNat ∈ [1, 2, 3, 4, 5, 6, 7, 15]) &&
    !(decide (c.kind = 1) && decide (c.distance = 0)) &&
    !(decide (c.kind = 3) &&
      (decide (Config.literalMaxLen < c.len.toNat) || decide (c.data.length ≠ c.len.toNat))) &&
    !(decide (c.kind = 7) &&
      (decide (Config.litCmapCapacity < c.litMap.length) || decide (Config.distCmapCapacity < c.distMap.length)))

/-- Latch the operand at a command boundary; inside a command it is ignored (R344). The latched command stays when the
type step then blocks, although R350 says that `NeedsMoreOutput` never changes `cmd` (log 16). -/
def latchCommand (c : Command) (s : State) : Reply Unit :=
  if s.codec.top = .topBegin then
    if validCommand c then .ok () (s.setCmd fun _ => c) else raise .protocolViolation s
  else .ok () s

/-- `ENCODE_CMD(cmd)` (R344). -/
def execEncodeCmd (c : Command) (s : State) : Host.Outcome State Fault Refusal :=
  runOp .encode true
    (fun s =>
      if s.ctl.encFinished = true ∨ s.codec.top = .topEof then raise .protocolViolation s
      else
        (latchCommand c s).bind fun _ s =>
          (runCodec s.codecFuel s).map fun _ => .nothing) s

/-- `DECODE_CMD()` (R345). -/
def execDecodeCmd (s : State) : Host.Outcome State Fault Refusal :=
  runOp .decode true
    (fun s =>
      if s.codec.top = .topEof then raise .protocolViolation s
      else (runCodec s.codecFuel s).bind fun _ s => .ok (.command s.codec.cmd) s) s

end Sys2Proof.Machine
end

