-- ==== Sys2Proof/Machine/Model.lean ====
section
/-! DEFINITION. The operations of the probability model: `P_*` and `P2_*` (R203 to R228). All are legal in both kinds
of session and lock the configuration (R348, R349). -/

namespace Sys2Proof.Machine

/-- `P_CDF(a, sym)` (R203). -/
def execPCdf (a : BitVec 16) (sym : Nibble) (s : State) : Host.Outcome State Fault Refusal :=
  runOp .always true (fun s => withCell a s fun c => .ok (.value (BitVec.ofNat 16 (cdf c sym.toNat))) s) s

/-- `P_PDF(a, sym)` (R204). -/
def execPPdf (a : BitVec 16) (sym : Nibble) (s : State) : Host.Outcome State Fault Refusal :=
  runOp .always true (fun s => withCell a s fun c => .ok (.value (BitVec.ofNat 16 (pdf c sym.toNat))) s) s

/-- `P_MAX(a)` (R205). -/
def execPMax (a : BitVec 16) (s : State) : Host.Outcome State Fault Refusal :=
  runOp .always true (fun s => withCell a s fun c => .ok (.value (BitVec.ofNat 16 (cdfTotal c))) s) s

/-- `P_LOG_MAX(a)`: not available for the variant instantiated (R206). -/
def execPLogMax (a : BitVec 16) (s : State) : Host.Outcome State Fault Refusal :=
  runOp .always true (fun s => withCell a s fun _ => .ok (.logMax false 0) s) s

/-- `P_BLEND(a, sym, speed)` (R210). -/
def execPBlend (a : BitVec 16) (sym : Nibble) (speed : BitVec 3) (s : State) :
    Host.Outcome State Fault Refusal :=
  runOp .always true
    (fun s => withCell a s fun c => .ok .nothing (s.setCell a (blend c sym.toNat speed))) s

/-- `P_AVERAGE(a, b, w)` (R215). The addresses are checked before the weight. -/
def execPAverage (a b w : BitVec 16) (s : State) : Host.Outcome State Fault Refusal :=
  runOp .always true
    (fun s => withCell a s fun ca => withCell b s fun cb =>
      if 32768 < w.toNat then raise .protocolViolation s
      else .ok .nothing (s.setMix (average ca cb w.toNat))) s

/-- `P_SYM_TO_START_FREQ(a, sym)` (R218). -/
def execPSymToStartFreq (a : BitVec 16) (sym : Nibble) (s : State) : Host.Outcome State Fault Refusal :=
  runOp .always true
    (fun s => withCell a s fun c => .ok (.startFreq (symStart c sym.toNat) (symFreq c sym.toNat)) s) s

/-- `P_OFFSET_TO_SYM(a, offset)` (R219). -/
def execPOffsetToSym (a offset : BitVec 16) (s : State) : Host.Outcome State Fault Refusal :=
  runOp .always true
    (fun s => withCell a s fun c =>
      if 32767 < offset.toNat then raise .protocolViolation s
      else
        let sym := offsetSym c offset.toNat
        .ok (.symStartFreq (BitVec.ofNat 4 sym) (symStart c sym) (symFreq c sym)) s) s

/-- `P_VALID(a)` (R221). -/
def execPValid (a : BitVec 16) (s : State) : Host.Outcome State Fault Refusal :=
  runOp .always true (fun s => withCell a s fun c => .ok (.ok (validCell c)) s) s

/-- `P_READ(a)` (R222). -/
def execPRead (a : BitVec 16) (s : State) : Host.Outcome State Fault Refusal :=
  runOp .always true (fun s => withCell a s fun c => .ok (.cell c) s) s

/-- `P_WRITE(a, c[0..15])` (R223): a cell that is not `valid()` is refused and not written. -/
def execPWrite (a : BitVec 16) (c : Cdf16) (s : State) : Host.Outcome State Fault Refusal :=
  runOp .always true
    (fun s => withCell a s fun _ =>
      if validCell c then .ok .nothing (s.setCell a c) else raise .protocolViolation s) s

/-- `P2_BLEND(a2, bit, speed)` (R226). -/
def execP2Blend (a2 : Nibble) (bit : Bool) (speed : BitVec 3) (s : State) :
    Host.Outcome State Fault Refusal :=
  runOp .always true (fun s => .ok .nothing (s.setCdf2 a2 (blend2 (s.cdf2 a2) bit speed))) s

/-- `P2_PROB(a2)` (R227). -/
def execP2Prob (a2 : Nibble) (s : State) : Host.Outcome State Fault Refusal :=
  runOp .always true (fun s => .ok (.prob (prob2 (s.cdf2 a2))) s) s

/-- `P2_OFFSET_TO_SYM(a2, offset)` (R228). -/
def execP2OffsetToSym (a2 : Nibble) (offset : BitVec 16) (s : State) :
    Host.Outcome State Fault Refusal :=
  runOp .always true
    (fun s =>
      if 32767 < offset.toNat then raise .protocolViolation s
      else
        let split := split2 (s.cdf2 a2)
        if offset.toNat < split then .ok (.bitStartFreq false 1 (BitVec.ofNat 16 (split - 1))) s
        else
          .ok (.bitStartFreq true (BitVec.ofNat 16 (split + 1)) (BitVec.ofNat 16 (32768 - split - 1)))
            s) s

end Sys2Proof.Machine
end

