-- ==== Sys2Proof/Machine/Session.lean ====
section
/-! DEFINITION. The session operations but the two command operations: `RESET`, `SET_CFG`, `GET_STATUS`,
`ENC_FINISH` (R340 to R343, R346). -/

namespace Sys2Proof.Machine

/-- `RESET()` (R340, R391): legal always, also after a failure. The requests still waiting outside stay (log 1). -/
def execReset (s : State) : Host.Outcome State Fault Refusal :=
  .next { State.reset with port := { s.port with response := ⟨.success, .nothing⟩ } }

/-- The mode-dependent registers take the values of the session mode (R342, R392). -/
def State.sessionRegisters (decoding : Bool) (s : State) : State :=
  if decoding then
    { s with
      ans1 := { s.ans1 with cursor := 0 }
      ans2 := { s.ans2 with stateA := 0, stateB := 0, bootNeed := 16 } }
  else
    { s with
      ans1 := { s.ans1 with cursor := 65536 }
      ans2 := { s.ans2 with stateA := 2147483648, stateB := 2147483648, bootNeed := 0 } }

/-- Whether `cfg` is a configuration the CORE takes: `MODEL_VARIANT` 0 and not ANS1 with DIRECT16 (R34, R342). -/
def legalCfg (cfg : BitVec 8) : Bool :=
  !cfg.getLsbD 3 && !(!cfg.getLsbD 1 && cfg.getLsbD 2)

/-- `SET_CFG(cfg)` (R342). -/
def execSetCfg (cfg : BitVec 8) (s : State) : Host.Outcome State Fault Refusal :=
  runOp .always false
    (fun s =>
      if s.ctl.cfgLocked then raise .protocolViolation s
      else if legalCfg cfg then
        .ok .nothing ({ s with ctl := { s.ctl with cfg := cfg } }.sessionRegisters (cfg.getLsbD 0))
      else raise .illegalConfiguration s) s

/-- `GET_STATUS()` (R343): it changes nothing but the response, also after a failure. -/
def execGetStatus (s : State) : Host.Outcome State Fault Refusal :=
  .next { s with port := { s.port with response := ⟨.success, .status s.status s.ctl.errcode⟩ } }

/-- `ENC_FINISH()` (R346). -/
def execEncFinish (s : State) : Host.Outcome State Fault Refusal :=
  runOp .encode true
    (fun s =>
      if s.codec.top = .inCommand ∨ s.bt.active = true then raise .protocolViolation s
      else
        (if s.engineAns2 then symFlush s else chunkFlush s).bind fun _ s =>
          .ok .nothing { s with ctl := { s.ctl with encFinished := true } }) s

end Sys2Proof.Machine
end

