-- ==== Sys2Proof/Machine/Dispatch.lean ====
section
/-! DEFINITION. One arm per instruction, one direct call of its meaning. -/

namespace Sys2Proof.Machine

def exec (i : Instr) (s : State) : Host.Outcome State Fault Refusal :=
  match i with
  | .reset => Sys2Proof.Machine.execReset s
  | .setCfg cfg => Sys2Proof.Machine.execSetCfg cfg s
  | .getStatus => Sys2Proof.Machine.execGetStatus s
  | .encodeCmd cmd => Sys2Proof.Machine.execEncodeCmd cmd s
  | .decodeCmd => Sys2Proof.Machine.execDecodeCmd s
  | .encFinish => Sys2Proof.Machine.execEncFinish s
  | .bqNumPushAvail q => Sys2Proof.Machine.execBqNumPushAvail q s
  | .bqNumPopAvail q => Sys2Proof.Machine.execBqNumPopAvail q s
  | .bqPushData q src => Sys2Proof.Machine.execBqPushData q src s
  | .bqPopData q len => Sys2Proof.Machine.execBqPopData q len s
  | .bEncodeInit => Sys2Proof.Machine.execBEncodeInit s
  | .bEncode bit p => Sys2Proof.Machine.execBEncode bit p s
  | .bEncodeFlush => Sys2Proof.Machine.execBEncodeFlush s
  | .bDecodeInit => Sys2Proof.Machine.execBDecodeInit s
  | .bDecode p => Sys2Proof.Machine.execBDecode p s
  | .bDecodeWillAdvance x1 => Sys2Proof.Machine.execBDecodeWillAdvance x1 s
  | .bDecodeAdvance x1 => Sys2Proof.Machine.execBDecodeAdvance x1 s
  | .bChunkPutBit bit p => Sys2Proof.Machine.execBChunkPutBit bit p s
  | .bChunkFlush => Sys2Proof.Machine.execBChunkFlush s
  | .bChunkGetBit p => Sys2Proof.Machine.execBChunkGetBit p s
  | .b1memWrite addr byte => Sys2Proof.Machine.execB1memWrite addr byte s
  | .b1memRead addr => Sys2Proof.Machine.execB1memRead addr s
  | .nEncPut start freq => Sys2Proof.Machine.execNEncPut start freq s
  | .nFlushChunk => Sys2Proof.Machine.execNFlushChunk s
  | .nDecFill => Sys2Proof.Machine.execNDecFill s
  | .nDecGetOffset => Sys2Proof.Machine.execNDecGetOffset s
  | .nDecAdvanceSym start freq => Sys2Proof.Machine.execNDecAdvanceSym start freq s
  | .nPutBit bit p => Sys2Proof.Machine.execNPutBit bit p s
  | .nGetBit p => Sys2Proof.Machine.execNGetBit p s
  | .pCdf a sym => Sys2Proof.Machine.execPCdf a sym s
  | .pPdf a sym => Sys2Proof.Machine.execPPdf a sym s
  | .pMax a => Sys2Proof.Machine.execPMax a s
  | .pLogMax a => Sys2Proof.Machine.execPLogMax a s
  | .pBlend a sym speed => Sys2Proof.Machine.execPBlend a sym speed s
  | .pAverage a b w => Sys2Proof.Machine.execPAverage a b w s
  | .pSymToStartFreq a sym => Sys2Proof.Machine.execPSymToStartFreq a sym s
  | .pOffsetToSym a offset => Sys2Proof.Machine.execPOffsetToSym a offset s
  | .pValid a => Sys2Proof.Machine.execPValid a s
  | .p2Blend a2 bit speed => Sys2Proof.Machine.execP2Blend a2 bit speed s
  | .p2Prob a2 => Sys2Proof.Machine.execP2Prob a2 s
  | .p2OffsetToSym a2 offset => Sys2Proof.Machine.execP2OffsetToSym a2 offset s
  | .pRead a => Sys2Proof.Machine.execPRead a s
  | .pWrite a c => Sys2Proof.Machine.execPWrite a c s
  | .tPutNibble a nibble => Sys2Proof.Machine.execTPutNibble a nibble s
  | .tGetNibble a => Sys2Proof.Machine.execTGetNibble a s
  | .tPutBit bit p => Sys2Proof.Machine.execTPutBit bit p s
  | .tGetBit p => Sys2Proof.Machine.execTGetBit p s
  | .cmdCopy => Sys2Proof.Machine.execCmdCopy s
  | .cmdDict => Sys2Proof.Machine.execCmdDict s
  | .cmdLiteral => Sys2Proof.Machine.execCmdLiteral s
  | .cmdBlockswitchLiteral => Sys2Proof.Machine.execCmdBlockswitchLiteral s
  | .cmdBlockswitchCommand => Sys2Proof.Machine.execCmdBlockswitchCommand s
  | .cmdBlockswitchDistance => Sys2Proof.Machine.execCmdBlockswitchDistance s
  | .cmdPredictionMode => Sys2Proof.Machine.execCmdPredictionMode s
  | .cmdEof => Sys2Proof.Machine.execCmdEof s
  | .cmdReserved0 => Sys2Proof.Machine.execCmdReserved0 s
  | .cmdReserved8 => Sys2Proof.Machine.execCmdReserved8 s
  | .cmdReserved9 => Sys2Proof.Machine.execCmdReserved9 s
  | .cmdReserved10 => Sys2Proof.Machine.execCmdReserved10 s
  | .cmdReserved11 => Sys2Proof.Machine.execCmdReserved11 s
  | .cmdReserved12 => Sys2Proof.Machine.execCmdReserved12 s
  | .cmdReserved13 => Sys2Proof.Machine.execCmdReserved13 s
  | .cmdReserved14 => Sys2Proof.Machine.execCmdReserved14 s
  | .smallValue0 => Sys2Proof.Machine.execSmallValue0 s
  | .smallValue1 => Sys2Proof.Machine.execSmallValue1 s
  | .smallValue2 => Sys2Proof.Machine.execSmallValue2 s
  | .smallValue3 => Sys2Proof.Machine.execSmallValue3 s
  | .smallValue4 => Sys2Proof.Machine.execSmallValue4 s
  | .smallValue5 => Sys2Proof.Machine.execSmallValue5 s
  | .smallValue6 => Sys2Proof.Machine.execSmallValue6 s
  | .smallValue7 => Sys2Proof.Machine.execSmallValue7 s
  | .smallValue8 => Sys2Proof.Machine.execSmallValue8 s
  | .smallValue9 => Sys2Proof.Machine.execSmallValue9 s
  | .smallFirst => Sys2Proof.Machine.execSmallFirst s
  | .smallGreater => Sys2Proof.Machine.execSmallGreater s
  | .smallRepeat => Sys2Proof.Machine.execSmallRepeat s
  | .smallMantissa => Sys2Proof.Machine.execSmallMantissa s
  | .smallReserved14 => Sys2Proof.Machine.execSmallReserved14 s
  | .smallReserved15 => Sys2Proof.Machine.execSmallReserved15 s
  | .firstCopy0 => Sys2Proof.Machine.execFirstCopy0 s
  | .firstCopy1 => Sys2Proof.Machine.execFirstCopy1 s
  | .firstCopy2 => Sys2Proof.Machine.execFirstCopy2 s
  | .firstCopy3 => Sys2Proof.Machine.execFirstCopy3 s
  | .firstCopy4 => Sys2Proof.Machine.execFirstCopy4 s
  | .firstCopy5 => Sys2Proof.Machine.execFirstCopy5 s
  | .firstCopy6 => Sys2Proof.Machine.execFirstCopy6 s
  | .firstCopy7 => Sys2Proof.Machine.execFirstCopy7 s
  | .firstCopy8 => Sys2Proof.Machine.execFirstCopy8 s
  | .firstCopy9 => Sys2Proof.Machine.execFirstCopy9 s
  | .firstCopy10 => Sys2Proof.Machine.execFirstCopy10 s
  | .firstCopy11 => Sys2Proof.Machine.execFirstCopy11 s
  | .firstCopy12 => Sys2Proof.Machine.execFirstCopy12 s
  | .firstCopy13 => Sys2Proof.Machine.execFirstCopy13 s
  | .firstCopy14 => Sys2Proof.Machine.execFirstCopy14 s
  | .firstCopy15 => Sys2Proof.Machine.execFirstCopy15 s
  | .greaterCopy0 => Sys2Proof.Machine.execGreaterCopy0 s
  | .greaterCopy1 => Sys2Proof.Machine.execGreaterCopy1 s
  | .greaterCopy2 => Sys2Proof.Machine.execGreaterCopy2 s
  | .greaterCopy3 => Sys2Proof.Machine.execGreaterCopy3 s
  | .greaterCopy4 => Sys2Proof.Machine.execGreaterCopy4 s
  | .greaterCopy5 => Sys2Proof.Machine.execGreaterCopy5 s
  | .greaterCopy6 => Sys2Proof.Machine.execGreaterCopy6 s
  | .greaterCopy7 => Sys2Proof.Machine.execGreaterCopy7 s
  | .greaterCopy8 => Sys2Proof.Machine.execGreaterCopy8 s
  | .greaterCopy9 => Sys2Proof.Machine.execGreaterCopy9 s
  | .greaterCopy10 => Sys2Proof.Machine.execGreaterCopy10 s
  | .greaterCopy11 => Sys2Proof.Machine.execGreaterCopy11 s
  | .greaterCopy12 => Sys2Proof.Machine.execGreaterCopy12 s
  | .greaterCopy13 => Sys2Proof.Machine.execGreaterCopy13 s
  | .greaterCopy14 => Sys2Proof.Machine.execGreaterCopy14 s
  | .greaterCopy15 => Sys2Proof.Machine.execGreaterCopy15 s
  | .firstLit0 => Sys2Proof.Machine.execFirstLit0 s
  | .firstLit1 => Sys2Proof.Machine.execFirstLit1 s
  | .firstLit2 => Sys2Proof.Machine.execFirstLit2 s
  | .firstLit3 => Sys2Proof.Machine.execFirstLit3 s
  | .firstLit4 => Sys2Proof.Machine.execFirstLit4 s
  | .firstLit5 => Sys2Proof.Machine.execFirstLit5 s
  | .firstLit6 => Sys2Proof.Machine.execFirstLit6 s
  | .firstLit7 => Sys2Proof.Machine.execFirstLit7 s
  | .firstLit8 => Sys2Proof.Machine.execFirstLit8 s
  | .firstLit9 => Sys2Proof.Machine.execFirstLit9 s
  | .firstLit10 => Sys2Proof.Machine.execFirstLit10 s
  | .firstLit11 => Sys2Proof.Machine.execFirstLit11 s
  | .firstLit12 => Sys2Proof.Machine.execFirstLit12 s
  | .firstLit13 => Sys2Proof.Machine.execFirstLit13 s
  | .firstLit14 => Sys2Proof.Machine.execFirstLit14 s
  | .firstLit15 => Sys2Proof.Machine.execFirstLit15 s
  | .greaterLit0 => Sys2Proof.Machine.execGreaterLit0 s
  | .greaterLit1 => Sys2Proof.Machine.execGreaterLit1 s
  | .greaterLit2 => Sys2Proof.Machine.execGreaterLit2 s
  | .greaterLit3 => Sys2Proof.Machine.execGreaterLit3 s
  | .greaterLit4 => Sys2Proof.Machine.execGreaterLit4 s
  | .greaterLit5 => Sys2Proof.Machine.execGreaterLit5 s
  | .greaterLit6 => Sys2Proof.Machine.execGreaterLit6 s
  | .greaterLit7 => Sys2Proof.Machine.execGreaterLit7 s
  | .greaterLit8 => Sys2Proof.Machine.execGreaterLit8 s
  | .greaterLit9 => Sys2Proof.Machine.execGreaterLit9 s
  | .greaterLit10 => Sys2Proof.Machine.execGreaterLit10 s
  | .greaterLit11 => Sys2Proof.Machine.execGreaterLit11 s
  | .greaterLit12 => Sys2Proof.Machine.execGreaterLit12 s
  | .greaterLit13 => Sys2Proof.Machine.execGreaterLit13 s
  | .greaterLit14 => Sys2Proof.Machine.execGreaterLit14 s
  | .greaterLit15 => Sys2Proof.Machine.execGreaterLit15 s
  | .header0 => Sys2Proof.Machine.execHeader0 s
  | .header1 => Sys2Proof.Machine.execHeader1 s
  | .header2 => Sys2Proof.Machine.execHeader2 s
  | .header3 => Sys2Proof.Machine.execHeader3 s
  | .header4 => Sys2Proof.Machine.execHeader4 s
  | .header5 => Sys2Proof.Machine.execHeader5 s
  | .header6 => Sys2Proof.Machine.execHeader6 s
  | .header7 => Sys2Proof.Machine.execHeader7 s
  | .header8 => Sys2Proof.Machine.execHeader8 s
  | .header9 => Sys2Proof.Machine.execHeader9 s
  | .header10 => Sys2Proof.Machine.execHeader10 s
  | .header11 => Sys2Proof.Machine.execHeader11 s
  | .header12 => Sys2Proof.Machine.execHeader12 s
  | .header13 => Sys2Proof.Machine.execHeader13 s
  | .header14 => Sys2Proof.Machine.execHeader14 s
  | .header15 => Sys2Proof.Machine.execHeader15 s
  | .distMnemonic0 => Sys2Proof.Machine.execDistMnemonic0 s
  | .distMnemonic1 => Sys2Proof.Machine.execDistMnemonic1 s
  | .distMnemonic2 => Sys2Proof.Machine.execDistMnemonic2 s
  | .distMnemonic3 => Sys2Proof.Machine.execDistMnemonic3 s
  | .distMnemonic4 => Sys2Proof.Machine.execDistMnemonic4 s
  | .distMnemonic5 => Sys2Proof.Machine.execDistMnemonic5 s
  | .distMnemonic6 => Sys2Proof.Machine.execDistMnemonic6 s
  | .distMnemonic7 => Sys2Proof.Machine.execDistMnemonic7 s
  | .distMnemonic8 => Sys2Proof.Machine.execDistMnemonic8 s
  | .distMnemonic9 => Sys2Proof.Machine.execDistMnemonic9 s
  | .distMnemonic10 => Sys2Proof.Machine.execDistMnemonic10 s
  | .distMnemonic11 => Sys2Proof.Machine.execDistMnemonic11 s
  | .distMnemonic12 => Sys2Proof.Machine.execDistMnemonic12 s
  | .distMnemonic13 => Sys2Proof.Machine.execDistMnemonic13 s
  | .distMnemonic14 => Sys2Proof.Machine.execDistMnemonic14 s
  | .distEscape => Sys2Proof.Machine.execDistEscape s
  | .cmapLru0 => Sys2Proof.Machine.execCmapLru0 s
  | .cmapLru1 => Sys2Proof.Machine.execCmapLru1 s
  | .cmapLru2 => Sys2Proof.Machine.execCmapLru2 s
  | .cmapLru3 => Sys2Proof.Machine.execCmapLru3 s
  | .cmapLru4 => Sys2Proof.Machine.execCmapLru4 s
  | .cmapLru5 => Sys2Proof.Machine.execCmapLru5 s
  | .cmapLru6 => Sys2Proof.Machine.execCmapLru6 s
  | .cmapLru7 => Sys2Proof.Machine.execCmapLru7 s
  | .cmapLru8 => Sys2Proof.Machine.execCmapLru8 s
  | .cmapLru9 => Sys2Proof.Machine.execCmapLru9 s
  | .cmapLru10 => Sys2Proof.Machine.execCmapLru10 s
  | .cmapLru11 => Sys2Proof.Machine.execCmapLru11 s
  | .cmapLru12 => Sys2Proof.Machine.execCmapLru12 s
  | .cmapExplicit => Sys2Proof.Machine.execCmapExplicit s
  | .cmapReserved14 => Sys2Proof.Machine.execCmapReserved14 s
  | .cmapReserved15 => Sys2Proof.Machine.execCmapReserved15 s
  | .he0 => Sys2Proof.Machine.execHe0 s
  | .he1 => Sys2Proof.Machine.execHe1 s
  | .he2 => Sys2Proof.Machine.execHe2 s
  | .he3 => Sys2Proof.Machine.execHe3 s
  | .he4 => Sys2Proof.Machine.execHe4 s
  | .he5 => Sys2Proof.Machine.execHe5 s
  | .he6 => Sys2Proof.Machine.execHe6 s
  | .he7 => Sys2Proof.Machine.execHe7 s
  | .he8 => Sys2Proof.Machine.execHe8 s
  | .he9 => Sys2Proof.Machine.execHe9 s
  | .he10 => Sys2Proof.Machine.execHe10 s
  | .he11 => Sys2Proof.Machine.execHe11 s
  | .he12 => Sys2Proof.Machine.execHe12 s
  | .he13 => Sys2Proof.Machine.execHe13 s
  | .he14 => Sys2Proof.Machine.execHe14 s
  | .he15 => Sys2Proof.Machine.execHe15 s
  | .pm0 => Sys2Proof.Machine.execPm0 s
  | .pm1 => Sys2Proof.Machine.execPm1 s
  | .pm2 => Sys2Proof.Machine.execPm2 s
  | .pm3 => Sys2Proof.Machine.execPm3 s
  | .pm4 => Sys2Proof.Machine.execPm4 s
  | .pm5 => Sys2Proof.Machine.execPm5 s
  | .pm6 => Sys2Proof.Machine.execPm6 s
  | .pm7 => Sys2Proof.Machine.execPm7 s
  | .pm8 => Sys2Proof.Machine.execPm8 s
  | .pm9 => Sys2Proof.Machine.execPm9 s
  | .pm10 => Sys2Proof.Machine.execPm10 s
  | .pm11 => Sys2Proof.Machine.execPm11 s
  | .pm12 => Sys2Proof.Machine.execPm12 s
  | .pm13 => Sys2Proof.Machine.execPm13 s
  | .pm14 => Sys2Proof.Machine.execPm14 s
  | .pm15 => Sys2Proof.Machine.execPm15 s
  | .speed0 => Sys2Proof.Machine.execSpeed0 s
  | .speed1 => Sys2Proof.Machine.execSpeed1 s
  | .speed2 => Sys2Proof.Machine.execSpeed2 s
  | .speed3 => Sys2Proof.Machine.execSpeed3 s
  | .speed4 => Sys2Proof.Machine.execSpeed4 s
  | .speed5 => Sys2Proof.Machine.execSpeed5 s
  | .speed6 => Sys2Proof.Machine.execSpeed6 s
  | .speed7 => Sys2Proof.Machine.execSpeed7 s
  | .speed8 => Sys2Proof.Machine.execSpeed8 s
  | .speed9 => Sys2Proof.Machine.execSpeed9 s
  | .speed10 => Sys2Proof.Machine.execSpeed10 s
  | .speed11 => Sys2Proof.Machine.execSpeed11 s
  | .speed12 => Sys2Proof.Machine.execSpeed12 s
  | .speed13 => Sys2Proof.Machine.execSpeed13 s
  | .speed14 => Sys2Proof.Machine.execSpeed14 s
  | .speed15 => Sys2Proof.Machine.execSpeed15 s

end Sys2Proof.Machine
end

