-- ==== Sys2Proof/WellFormed.lean ====
section
/-! DEFINITION. Which instructions are well formed: those a request can carry. Every operand of fixed width is in
range by its type; what is left to check is the length of the byte lists, which a request counts in 32 bits (R90; log
1), and that a command record means only the fields of its kind (R42). -/

namespace Sys2Proof

/-- The command with the fields its kind gives it (R42), every other field 0 or empty. -/
def Command.restrict (c : Command) : Command :=
  match c.kind.toNat with
  | 1 => { Command.blank c.kind with distance := c.distance, numBytes := c.numBytes }
  | 2 =>
    { Command.blank c.kind with
      wordId := c.wordId, wordSize := c.wordSize, transform := c.transform, finalSize := c.finalSize }
  | 3 => { Command.blank c.kind with len := c.len, highEntropy := c.highEntropy, data := c.data }
  | 4 => { Command.blank c.kind with blockType := c.blockType }
  | 5 => { Command.blank c.kind with blockType := c.blockType }
  | 6 => { Command.blank c.kind with blockType := c.blockType }
  | 7 =>
    { Command.blank c.kind with
      pm := c.pm, speedStride := c.speedStride, speedCm := c.speedCm, litMap := c.litMap, distMap := c.distMap }
  | _ => Command.blank c.kind

/-- A list whose length a 32-bit count can hold. -/
def countable (bs : List Byte) : Bool := decide (bs.length < 4294967296)

/-- The command is one of its kind and its lists can be counted. -/
def Command.wf (c : Command) : Bool :=
  decide (c.restrict = c) && countable c.data && countable c.litMap && countable c.distMap

/-- The instruction is well formed. -/
def Instr.wf : Instr → Bool
  | .encodeCmd c => c.wf
  | .bqPushData _ src => countable src
  | _ => true

end Sys2Proof
end

