-- ==== Sys2Proof/Decode.lean ====
section
/-! DEFINITION. Decoding and encoding. A request of the operation port is a list of bytes: the operation code (R90),
then the operands in the order R90 lists them, each in whole bytes, least significant first (R90 leaves the layout
open; log 1). A coded nibble is a value read by one of the value tables (R97, R99 to R104). -/

namespace Sys2Proof

open Sys2Proof.Machine (leBytes fromLE)

/-- Why a request is no operation with operands (R92). -/
inductive DecodeError where
  /-- The operation code is in none of the rows of R90. -/
  | reservedOp
  /-- The request ends before its operands do. -/
  | truncated
  /-- An operand is outside its stated width. -/
  | operandOutOfRange
  deriving DecidableEq, Repr

/-- What the CORE reads an instruction from: a request, or a coded nibble with the table that reads it. -/
inductive CodeWord where
  | request (bytes : List Byte)
  | nibble (t : NibbleTable) (v : Nibble)
  deriving DecidableEq, Repr

/-! ### Reading operands -/

/-- The next `n` bytes, and the rest. -/
def takeBytes (n : Nat) (bs : List Byte) : Except DecodeError (List Byte × List Byte) :=
  if bs.length < n then .error .truncated else .ok (bs.take n, bs.drop n)

/-- How many bytes an operand of `w` bits takes. -/
def wordBytes (w : Nat) : Nat := (w + 7) / 8

/-- An operand of `w` bits. Operands are read in order and the first one that is missing or out of its width decides the
error, whatever follows it (DESIGN CHOICE, log 12). -/
def takeWord (w : Nat) (bs : List Byte) : Except DecodeError (BitVec w × List Byte) :=
  match takeBytes (wordBytes w) bs with
  | .error e => .error e
  | .ok (xs, rest) =>
    if fromLE xs < 2 ^ w then .ok (BitVec.ofNat w (fromLE xs), rest) else .error .operandOutOfRange

/-- An operand of one bit. -/
def takeBit (bs : List Byte) : Except DecodeError (Bool × List Byte) :=
  match takeWord 1 bs with
  | .error e => .error e
  | .ok (b, rest) => .ok (b.getLsbD 0, rest)

/-- The operand `q` (R90). -/
def takeQueue (bs : List Byte) : Except DecodeError (Queue × List Byte) :=
  match takeBit bs with
  | .error e => .error e
  | .ok (b, rest) => .ok (if b then .output else .input, rest)

/-- A byte list: its length in 32 bits, then its bytes. -/
def takeList (bs : List Byte) : Except DecodeError (List Byte × List Byte) :=
  match takeWord 32 bs with
  | .error e => .error e
  | .ok (n, rest) => takeBytes n.toNat rest

/-- A CDF16 cell, 16 x u16. -/
def takeCell (bs : List Byte) : Except DecodeError (Cdf16 × List Byte) :=
  match takeBytes 32 bs with
  | .error e => .error e
  | .ok (xs, rest) =>
    .ok (Vector.ofFn fun i => BitVec.ofNat 16 (fromLE ((xs.drop (2 * i.val)).take 2)), rest)

/-- A command: its kind, then the fields of that kind (R42). A kind that is no command has no fields (R344). -/
def takeCommand (bs : List Byte) : Except DecodeError (Command × List Byte) := do
  let (kind, bs) ← takeWord 4 bs
  let c := Command.blank kind
  match kind.toNat with
  | 1 =>
    let (distance, bs) ← takeWord 32 bs
    let (numBytes, bs) ← takeWord 32 bs
    pure ({ c with distance := distance, numBytes := numBytes }, bs)
  | 2 =>
    let (wordId, bs) ← takeWord 32 bs
    let (wordSize, bs) ← takeWord 32 bs
    let (transform, bs) ← takeWord 32 bs
    let (finalSize, bs) ← takeWord 32 bs
    pure ({ c with wordId := wordId, wordSize := wordSize, transform := transform, finalSize := finalSize }, bs)
  | 3 =>
    let (len, bs) ← takeWord 32 bs
    let (highEntropy, bs) ← takeBit bs
    let (data, bs) ← takeList bs
    pure ({ c with len := len, highEntropy := highEntropy, data := data }, bs)
  | 4 => let (blockType, bs) ← takeWord 8 bs; pure ({ c with blockType := blockType }, bs)
  | 5 => let (blockType, bs) ← takeWord 8 bs; pure ({ c with blockType := blockType }, bs)
  | 6 => let (blockType, bs) ← takeWord 8 bs; pure ({ c with blockType := blockType }, bs)
  | 7 =>
    let (pm, bs) ← takeWord 2 bs
    let (speedStride, bs) ← takeWord 3 bs
    let (speedCm, bs) ← takeWord 3 bs
    let (litMap, bs) ← takeList bs
    let (distMap, bs) ← takeList bs
    pure ({ c with
      pm := pm, speedStride := speedStride, speedCm := speedCm, litMap := litMap, distMap := distMap }, bs)
  | _ => pure (c, bs)

/-! ### Decoding -/

/-- The operands of the operation with code `op` (R90, R92). -/
def decodeOperands (op : Nat) (bs : List Byte) : Except DecodeError Instr :=
  match op with
  | 0x00 => .ok .reset
  | 0x01 => do let (cfg, _) ← takeWord 8 bs; pure (.setCfg cfg)
  | 0x02 => .ok .getStatus
  | 0x03 => do let (cmd, _) ← takeCommand bs; pure (.encodeCmd cmd)
  | 0x04 => .ok .decodeCmd
  | 0x05 => .ok .encFinish
  | 0x10 => do let (q, _) ← takeQueue bs; pure (.bqNumPushAvail q)
  | 0x11 => do let (q, _) ← takeQueue bs; pure (.bqNumPopAvail q)
  | 0x12 => do
    let (q, bs) ← takeQueue bs
    let (src, _) ← takeList bs
    pure (.bqPushData q src)
  | 0x13 => do
    let (q, bs) ← takeQueue bs
    let (len, _) ← takeWord 32 bs
    pure (.bqPopData q len)
  | 0x20 => .ok .bEncodeInit
  | 0x21 => do
    let (bit, bs) ← takeBit bs
    let (p, _) ← takeWord 8 bs
    pure (.bEncode bit p)
  | 0x22 => .ok .bEncodeFlush
  | 0x23 => .ok .bDecodeInit
  | 0x24 => do let (p, _) ← takeWord 8 bs; pure (.bDecode p)
  | 0x25 => do let (x1, _) ← takeWord 64 bs; pure (.bDecodeWillAdvance x1)
  | 0x26 => do let (x1, _) ← takeWord 64 bs; pure (.bDecodeAdvance x1)
  | 0x27 => do
    let (bit, bs) ← takeBit bs
    let (p, _) ← takeWord 8 bs
    pure (.bChunkPutBit bit p)
  | 0x28 => .ok .bChunkFlush
  | 0x29 => do let (p, _) ← takeWord 8 bs; pure (.bChunkGetBit p)
  | 0x2A => do
    let (addr, bs) ← takeWord 16 bs
    let (byte, _) ← takeWord 8 bs
    pure (.b1memWrite addr byte)
  | 0x2B => do let (addr, _) ← takeWord 16 bs; pure (.b1memRead addr)
  | 0x30 => do
    let (start, bs) ← takeWord 16 bs
    let (freq, _) ← takeWord 16 bs
    pure (.nEncPut start freq)
  | 0x31 => .ok .nFlushChunk
  | 0x32 => .ok .nDecFill
  | 0x33 => .ok .nDecGetOffset
  | 0x34 => do
    let (start, bs) ← takeWord 16 bs
    let (freq, _) ← takeWord 16 bs
    pure (.nDecAdvanceSym start freq)
  | 0x35 => do
    let (bit, bs) ← takeBit bs
    let (p, _) ← takeWord 8 bs
    pure (.nPutBit bit p)
  | 0x36 => do let (p, _) ← takeWord 8 bs; pure (.nGetBit p)
  | 0x40 => do
    let (a, bs) ← takeWord 16 bs
    let (sym, _) ← takeWord 4 bs
    pure (.pCdf a sym)
  | 0x41 => do
    let (a, bs) ← takeWord 16 bs
    let (sym, _) ← takeWord 4 bs
    pure (.pPdf a sym)
  | 0x42 => do let (a, _) ← takeWord 16 bs; pure (.pMax a)
  | 0x43 => do let (a, _) ← takeWord 16 bs; pure (.pLogMax a)
  | 0x44 => do
    let (a, bs) ← takeWord 16 bs
    let (sym, bs) ← takeWord 4 bs
    let (speed, _) ← takeWord 3 bs
    pure (.pBlend a sym speed)
  | 0x45 => do
    let (a, bs) ← takeWord 16 bs
    let (b, bs) ← takeWord 16 bs
    let (w, _) ← takeWord 16 bs
    pure (.pAverage a b w)
  | 0x46 => do
    let (a, bs) ← takeWord 16 bs
    let (sym, _) ← takeWord 4 bs
    pure (.pSymToStartFreq a sym)
  | 0x47 => do
    let (a, bs) ← takeWord 16 bs
    let (offset, _) ← takeWord 16 bs
    pure (.pOffsetToSym a offset)
  | 0x48 => do let (a, _) ← takeWord 16 bs; pure (.pValid a)
  | 0x49 => do
    let (a2, bs) ← takeWord 4 bs
    let (bit, bs) ← takeBit bs
    let (speed, _) ← takeWord 3 bs
    pure (.p2Blend a2 bit speed)
  | 0x4A => do let (a2, _) ← takeWord 4 bs; pure (.p2Prob a2)
  | 0x4B => do
    let (a2, bs) ← takeWord 4 bs
    let (offset, _) ← takeWord 16 bs
    pure (.p2OffsetToSym a2 offset)
  | 0x4C => do let (a, _) ← takeWord 16 bs; pure (.pRead a)
  | 0x4D => do
    let (a, bs) ← takeWord 16 bs
    let (c, _) ← takeCell bs
    pure (.pWrite a c)
  | 0x50 => do
    let (a, bs) ← takeWord 16 bs
    let (nibble, _) ← takeWord 4 bs
    pure (.tPutNibble a nibble)
  | 0x51 => do let (a, _) ← takeWord 16 bs; pure (.tGetNibble a)
  | 0x52 => do
    let (bit, bs) ← takeBit bs
    let (p, _) ← takeWord 8 bs
    pure (.tPutBit bit p)
  | 0x53 => do let (p, _) ← takeWord 8 bs; pure (.tGetBit p)
  | _ => .error .reservedOp

/-- The operation a request carries. Total on any bytes; bytes after the operands are ignored (R90; log 1). -/
def decodeRequest : List Byte → Except DecodeError Instr
  | [] => .error .truncated
  | op :: bs => decodeOperands op.toNat bs

/-- The sixteen rows of a value table, nibble 0 first (R97, R99 to R104). -/
def tableInstrs : NibbleTable → Vector Instr 16
  | .cmdType =>
    #v[.cmdReserved0, .cmdCopy, .cmdDict, .cmdLiteral,
      .cmdBlockswitchLiteral, .cmdBlockswitchCommand, .cmdBlockswitchDistance, .cmdPredictionMode,
      .cmdReserved8, .cmdReserved9, .cmdReserved10, .cmdReserved11,
      .cmdReserved12, .cmdReserved13, .cmdReserved14, .cmdEof]
  | .small =>
    #v[.smallValue0, .smallValue1, .smallValue2, .smallValue3,
      .smallValue4, .smallValue5, .smallValue6, .smallValue7,
      .smallValue8, .smallValue9, .smallFirst, .smallGreater,
      .smallRepeat, .smallMantissa, .smallReserved14, .smallReserved15]
  | .firstCopy =>
    #v[.firstCopy0, .firstCopy1, .firstCopy2, .firstCopy3,
      .firstCopy4, .firstCopy5, .firstCopy6, .firstCopy7,
      .firstCopy8, .firstCopy9, .firstCopy10, .firstCopy11,
      .firstCopy12, .firstCopy13, .firstCopy14, .firstCopy15]
  | .greaterCopy =>
    #v[.greaterCopy0, .greaterCopy1, .greaterCopy2, .greaterCopy3,
      .greaterCopy4, .greaterCopy5, .greaterCopy6, .greaterCopy7,
      .greaterCopy8, .greaterCopy9, .greaterCopy10, .greaterCopy11,
      .greaterCopy12, .greaterCopy13, .greaterCopy14, .greaterCopy15]
  | .firstLit =>
    #v[.firstLit0, .firstLit1, .firstLit2, .firstLit3,
      .firstLit4, .firstLit5, .firstLit6, .firstLit7,
      .firstLit8, .firstLit9, .firstLit10, .firstLit11,
      .firstLit12, .firstLit13, .firstLit14, .firstLit15]
  | .greaterLit =>
    #v[.greaterLit0, .greaterLit1, .greaterLit2, .greaterLit3,
      .greaterLit4, .greaterLit5, .greaterLit6, .greaterLit7,
      .greaterLit8, .greaterLit9, .greaterLit10, .greaterLit11,
      .greaterLit12, .greaterLit13, .greaterLit14, .greaterLit15]
  | .header =>
    #v[.header0, .header1, .header2, .header3,
      .header4, .header5, .header6, .header7,
      .header8, .header9, .header10, .header11,
      .header12, .header13, .header14, .header15]
  | .distMnemonic =>
    #v[.distMnemonic0, .distMnemonic1, .distMnemonic2, .distMnemonic3,
      .distMnemonic4, .distMnemonic5, .distMnemonic6, .distMnemonic7,
      .distMnemonic8, .distMnemonic9, .distMnemonic10, .distMnemonic11,
      .distMnemonic12, .distMnemonic13, .distMnemonic14, .distEscape]
  | .cmapEntry =>
    #v[.cmapLru0, .cmapLru1, .cmapLru2, .cmapLru3,
      .cmapLru4, .cmapLru5, .cmapLru6, .cmapLru7,
      .cmapLru8, .cmapLru9, .cmapLru10, .cmapLru11,
      .cmapLru12, .cmapExplicit, .cmapReserved14, .cmapReserved15]
  | .highEntropy =>
    #v[.he0, .he1, .he2, .he3,
      .he4, .he5, .he6, .he7,
      .he8, .he9, .he10, .he11,
      .he12, .he13, .he14, .he15]
  | .predMode =>
    #v[.pm0, .pm1, .pm2, .pm3,
      .pm4, .pm5, .pm6, .pm7,
      .pm8, .pm9, .pm10, .pm11,
      .pm12, .pm13, .pm14, .pm15]
  | .speed =>
    #v[.speed0, .speed1, .speed2, .speed3,
      .speed4, .speed5, .speed6, .speed7,
      .speed8, .speed9, .speed10, .speed11,
      .speed12, .speed13, .speed14, .speed15]

/-- The row a coded nibble is in its table (R97, R99 to R104). Every nibble has one. -/
def decodeNibble (t : NibbleTable) (v : Nibble) : Instr := (tableInstrs t)[v.toNat]'(v.isLt)

/-- The decoder. -/
def decode : CodeWord → Except DecodeError Instr
  | .request bytes => decodeRequest bytes
  | .nibble t v => .ok (decodeNibble t v)

/-- The instruction the decoder reads from a word of spec/opcode_table.json of `nbits` bits, bit 0 the least
significant bit of the first byte, every operand bit above `nbits` zero. A word shorter than a byte is a coded nibble:
the twelve tables share the words 0 to 15 and the word alone does not say the table, so the first table answers
(log 2). -/
def decodeTableWord (nbits w : Nat) : Option Instr :=
  if nbits < 8 then some (decodeNibble .cmdType (BitVec.ofNat 4 w))
  else
    match decodeRequest (leBytes (nbits / 8) w ++ List.replicate 40 0) with
    | .ok i => some i
    | .error _ => none

/-! ### Encoding -/

/-- An operand of `w` bits, in whole bytes. -/
def putWord {w : Nat} (x : BitVec w) : List Byte := leBytes (wordBytes w) x.toNat

/-- An operand of one bit. -/
def putBit1 (b : Bool) : List Byte := putWord (BitVec.ofBool b)

/-- The operand `q` (R90). -/
def putQueue (q : Queue) : List Byte := putBit1 (decide (q = .output))

/-- A byte list after its length. -/
def putList (bs : List Byte) : List Byte := leBytes 4 bs.length ++ bs

/-- A CDF16 cell. -/
def putCell (x : Cdf16) : List Byte := x.toList.flatMap fun v => putWord v

/-- A command. -/
def putCommand (c : Command) : List Byte :=
  putWord c.kind ++
    match c.kind.toNat with
    | 1 => putWord c.distance ++ putWord c.numBytes
    | 2 => putWord c.wordId ++ putWord c.wordSize ++ putWord c.transform ++ putWord c.finalSize
    | 3 => putWord c.len ++ putBit1 c.highEntropy ++ putList c.data
    | 4 => putWord c.blockType
    | 5 => putWord c.blockType
    | 6 => putWord c.blockType
    | 7 => putWord c.pm ++ putWord c.speedStride ++ putWord c.speedCm ++ putList c.litMap ++ putList c.distMap
    | _ => []

/-- The word of an instruction. -/
def encode : Instr → CodeWord
  | .reset => .request [0x00]
  | .setCfg cfg => .request (0x01 :: (putWord cfg))
  | .getStatus => .request [0x02]
  | .encodeCmd cmd => .request (0x03 :: (putCommand cmd))
  | .decodeCmd => .request [0x04]
  | .encFinish => .request [0x05]
  | .bqNumPushAvail q => .request (0x10 :: (putQueue q))
  | .bqNumPopAvail q => .request (0x11 :: (putQueue q))
  | .bqPushData q src => .request (0x12 :: (putQueue q ++ putList src))
  | .bqPopData q len => .request (0x13 :: (putQueue q ++ putWord len))
  | .bEncodeInit => .request [0x20]
  | .bEncode bit p => .request (0x21 :: (putBit1 bit ++ putWord p))
  | .bEncodeFlush => .request [0x22]
  | .bDecodeInit => .request [0x23]
  | .bDecode p => .request (0x24 :: (putWord p))
  | .bDecodeWillAdvance x1 => .request (0x25 :: (putWord x1))
  | .bDecodeAdvance x1 => .request (0x26 :: (putWord x1))
  | .bChunkPutBit bit p => .request (0x27 :: (putBit1 bit ++ putWord p))
  | .bChunkFlush => .request [0x28]
  | .bChunkGetBit p => .request (0x29 :: (putWord p))
  | .b1memWrite addr byte => .request (0x2A :: (putWord addr ++ putWord byte))
  | .b1memRead addr => .request (0x2B :: (putWord addr))
  | .nEncPut start freq => .request (0x30 :: (putWord start ++ putWord freq))
  | .nFlushChunk => .request [0x31]
  | .nDecFill => .request [0x32]
  | .nDecGetOffset => .request [0x33]
  | .nDecAdvanceSym start freq => .request (0x34 :: (putWord start ++ putWord freq))
  | .nPutBit bit p => .request (0x35 :: (putBit1 bit ++ putWord p))
  | .nGetBit p => .request (0x36 :: (putWord p))
  | .pCdf a sym => .request (0x40 :: (putWord a ++ putWord sym))
  | .pPdf a sym => .request (0x41 :: (putWord a ++ putWord sym))
  | .pMax a => .request (0x42 :: (putWord a))
  | .pLogMax a => .request (0x43 :: (putWord a))
  | .pBlend a sym speed => .request (0x44 :: (putWord a ++ putWord sym ++ putWord speed))
  | .pAverage a b w => .request (0x45 :: (putWord a ++ putWord b ++ putWord w))
  | .pSymToStartFreq a sym => .request (0x46 :: (putWord a ++ putWord sym))
  | .pOffsetToSym a offset => .request (0x47 :: (putWord a ++ putWord offset))
  | .pValid a => .request (0x48 :: (putWord a))
  | .p2Blend a2 bit speed => .request (0x49 :: (putWord a2 ++ putBit1 bit ++ putWord speed))
  | .p2Prob a2 => .request (0x4A :: (putWord a2))
  | .p2OffsetToSym a2 offset => .request (0x4B :: (putWord a2 ++ putWord offset))
  | .pRead a => .request (0x4C :: (putWord a))
  | .pWrite a c => .request (0x4D :: (putWord a ++ putCell c))
  | .tPutNibble a nibble => .request (0x50 :: (putWord a ++ putWord nibble))
  | .tGetNibble a => .request (0x51 :: (putWord a))
  | .tPutBit bit p => .request (0x52 :: (putBit1 bit ++ putWord p))
  | .tGetBit p => .request (0x53 :: (putWord p))
  | .cmdCopy => .nibble .cmdType 1
  | .cmdDict => .nibble .cmdType 2
  | .cmdLiteral => .nibble .cmdType 3
  | .cmdBlockswitchLiteral => .nibble .cmdType 4
  | .cmdBlockswitchCommand => .nibble .cmdType 5
  | .cmdBlockswitchDistance => .nibble .cmdType 6
  | .cmdPredictionMode => .nibble .cmdType 7
  | .cmdEof => .nibble .cmdType 15
  | .cmdReserved0 => .nibble .cmdType 0
  | .cmdReserved8 => .nibble .cmdType 8
  | .cmdReserved9 => .nibble .cmdType 9
  | .cmdReserved10 => .nibble .cmdType 10
  | .cmdReserved11 => .nibble .cmdType 11
  | .cmdReserved12 => .nibble .cmdType 12
  | .cmdReserved13 => .nibble .cmdType 13
  | .cmdReserved14 => .nibble .cmdType 14
  | .smallValue0 => .nibble .small 0
  | .smallValue1 => .nibble .small 1
  | .smallValue2 => .nibble .small 2
  | .smallValue3 => .nibble .small 3
  | .smallValue4 => .nibble .small 4
  | .smallValue5 => .nibble .small 5
  | .smallValue6 => .nibble .small 6
  | .smallValue7 => .nibble .small 7
  | .smallValue8 => .nibble .small 8
  | .smallValue9 => .nibble .small 9
  | .smallFirst => .nibble .small 10
  | .smallGreater => .nibble .small 11
  | .smallRepeat => .nibble .small 12
  | .smallMantissa => .nibble .small 13
  | .smallReserved14 => .nibble .small 14
  | .smallReserved15 => .nibble .small 15
  | .firstCopy0 => .nibble .firstCopy 0
  | .firstCopy1 => .nibble .firstCopy 1
  | .firstCopy2 => .nibble .firstCopy 2
  | .firstCopy3 => .nibble .firstCopy 3
  | .firstCopy4 => .nibble .firstCopy 4
  | .firstCopy5 => .nibble .firstCopy 5
  | .firstCopy6 => .nibble .firstCopy 6
  | .firstCopy7 => .nibble .firstCopy 7
  | .firstCopy8 => .nibble .firstCopy 8
  | .firstCopy9 => .nibble .firstCopy 9
  | .firstCopy10 => .nibble .firstCopy 10
  | .firstCopy11 => .nibble .firstCopy 11
  | .firstCopy12 => .nibble .firstCopy 12
  | .firstCopy13 => .nibble .firstCopy 13
  | .firstCopy14 => .nibble .firstCopy 14
  | .firstCopy15 => .nibble .firstCopy 15
  | .greaterCopy0 => .nibble .greaterCopy 0
  | .greaterCopy1 => .nibble .greaterCopy 1
  | .greaterCopy2 => .nibble .greaterCopy 2
  | .greaterCopy3 => .nibble .greaterCopy 3
  | .greaterCopy4 => .nibble .greaterCopy 4
  | .greaterCopy5 => .nibble .greaterCopy 5
  | .greaterCopy6 => .nibble .greaterCopy 6
  | .greaterCopy7 => .nibble .greaterCopy 7
  | .greaterCopy8 => .nibble .greaterCopy 8
  | .greaterCopy9 => .nibble .greaterCopy 9
  | .greaterCopy10 => .nibble .greaterCopy 10
  | .greaterCopy11 => .nibble .greaterCopy 11
  | .greaterCopy12 => .nibble .greaterCopy 12
  | .greaterCopy13 => .nibble .greaterCopy 13
  | .greaterCopy14 => .nibble .greaterCopy 14
  | .greaterCopy15 => .nibble .greaterCopy 15
  | .firstLit0 => .nibble .firstLit 0
  | .firstLit1 => .nibble .firstLit 1
  | .firstLit2 => .nibble .firstLit 2
  | .firstLit3 => .nibble .firstLit 3
  | .firstLit4 => .nibble .firstLit 4
  | .firstLit5 => .nibble .firstLit 5
  | .firstLit6 => .nibble .firstLit 6
  | .firstLit7 => .nibble .firstLit 7
  | .firstLit8 => .nibble .firstLit 8
  | .firstLit9 => .nibble .firstLit 9
  | .firstLit10 => .nibble .firstLit 10
  | .firstLit11 => .nibble .firstLit 11
  | .firstLit12 => .nibble .firstLit 12
  | .firstLit13 => .nibble .firstLit 13
  | .firstLit14 => .nibble .firstLit 14
  | .firstLit15 => .nibble .firstLit 15
  | .greaterLit0 => .nibble .greaterLit 0
  | .greaterLit1 => .nibble .greaterLit 1
  | .greaterLit2 => .nibble .greaterLit 2
  | .greaterLit3 => .nibble .greaterLit 3
  | .greaterLit4 => .nibble .greaterLit 4
  | .greaterLit5 => .nibble .greaterLit 5
  | .greaterLit6 => .nibble .greaterLit 6
  | .greaterLit7 => .nibble .greaterLit 7
  | .greaterLit8 => .nibble .greaterLit 8
  | .greaterLit9 => .nibble .greaterLit 9
  | .greaterLit10 => .nibble .greaterLit 10
  | .greaterLit11 => .nibble .greaterLit 11
  | .greaterLit12 => .nibble .greaterLit 12
  | .greaterLit13 => .nibble .greaterLit 13
  | .greaterLit14 => .nibble .greaterLit 14
  | .greaterLit15 => .nibble .greaterLit 15
  | .header0 => .nibble .header 0
  | .header1 => .nibble .header 1
  | .header2 => .nibble .header 2
  | .header3 => .nibble .header 3
  | .header4 => .nibble .header 4
  | .header5 => .nibble .header 5
  | .header6 => .nibble .header 6
  | .header7 => .nibble .header 7
  | .header8 => .nibble .header 8
  | .header9 => .nibble .header 9
  | .header10 => .nibble .header 10
  | .header11 => .nibble .header 11
  | .header12 => .nibble .header 12
  | .header13 => .nibble .header 13
  | .header14 => .nibble .header 14
  | .header15 => .nibble .header 15
  | .distMnemonic0 => .nibble .distMnemonic 0
  | .distMnemonic1 => .nibble .distMnemonic 1
  | .distMnemonic2 => .nibble .distMnemonic 2
  | .distMnemonic3 => .nibble .distMnemonic 3
  | .distMnemonic4 => .nibble .distMnemonic 4
  | .distMnemonic5 => .nibble .distMnemonic 5
  | .distMnemonic6 => .nibble .distMnemonic 6
  | .distMnemonic7 => .nibble .distMnemonic 7
  | .distMnemonic8 => .nibble .distMnemonic 8
  | .distMnemonic9 => .nibble .distMnemonic 9
  | .distMnemonic10 => .nibble .distMnemonic 10
  | .distMnemonic11 => .nibble .distMnemonic 11
  | .distMnemonic12 => .nibble .distMnemonic 12
  | .distMnemonic13 => .nibble .distMnemonic 13
  | .distMnemonic14 => .nibble .distMnemonic 14
  | .distEscape => .nibble .distMnemonic 15
  | .cmapLru0 => .nibble .cmapEntry 0
  | .cmapLru1 => .nibble .cmapEntry 1
  | .cmapLru2 => .nibble .cmapEntry 2
  | .cmapLru3 => .nibble .cmapEntry 3
  | .cmapLru4 => .nibble .cmapEntry 4
  | .cmapLru5 => .nibble .cmapEntry 5
  | .cmapLru6 => .nibble .cmapEntry 6
  | .cmapLru7 => .nibble .cmapEntry 7
  | .cmapLru8 => .nibble .cmapEntry 8
  | .cmapLru9 => .nibble .cmapEntry 9
  | .cmapLru10 => .nibble .cmapEntry 10
  | .cmapLru11 => .nibble .cmapEntry 11
  | .cmapLru12 => .nibble .cmapEntry 12
  | .cmapExplicit => .nibble .cmapEntry 13
  | .cmapReserved14 => .nibble .cmapEntry 14
  | .cmapReserved15 => .nibble .cmapEntry 15
  | .he0 => .nibble .highEntropy 0
  | .he1 => .nibble .highEntropy 1
  | .he2 => .nibble .highEntropy 2
  | .he3 => .nibble .highEntropy 3
  | .he4 => .nibble .highEntropy 4
  | .he5 => .nibble .highEntropy 5
  | .he6 => .nibble .highEntropy 6
  | .he7 => .nibble .highEntropy 7
  | .he8 => .nibble .highEntropy 8
  | .he9 => .nibble .highEntropy 9
  | .he10 => .nibble .highEntropy 10
  | .he11 => .nibble .highEntropy 11
  | .he12 => .nibble .highEntropy 12
  | .he13 => .nibble .highEntropy 13
  | .he14 => .nibble .highEntropy 14
  | .he15 => .nibble .highEntropy 15
  | .pm0 => .nibble .predMode 0
  | .pm1 => .nibble .predMode 1
  | .pm2 => .nibble .predMode 2
  | .pm3 => .nibble .predMode 3
  | .pm4 => .nibble .predMode 4
  | .pm5 => .nibble .predMode 5
  | .pm6 => .nibble .predMode 6
  | .pm7 => .nibble .predMode 7
  | .pm8 => .nibble .predMode 8
  | .pm9 => .nibble .predMode 9
  | .pm10 => .nibble .predMode 10
  | .pm11 => .nibble .predMode 11
  | .pm12 => .nibble .predMode 12
  | .pm13 => .nibble .predMode 13
  | .pm14 => .nibble .predMode 14
  | .pm15 => .nibble .predMode 15
  | .speed0 => .nibble .speed 0
  | .speed1 => .nibble .speed 1
  | .speed2 => .nibble .speed 2
  | .speed3 => .nibble .speed 3
  | .speed4 => .nibble .speed 4
  | .speed5 => .nibble .speed 5
  | .speed6 => .nibble .speed 6
  | .speed7 => .nibble .speed 7
  | .speed8 => .nibble .speed 8
  | .speed9 => .nibble .speed 9
  | .speed10 => .nibble .speed 10
  | .speed11 => .nibble .speed 11
  | .speed12 => .nibble .speed 12
  | .speed13 => .nibble .speed 13
  | .speed14 => .nibble .speed 14
  | .speed15 => .nibble .speed 15

end Sys2Proof
end

