-- ==== Sys2Proof/Machine/Requests.lean ====
section
/-! DEFINITION. Requests that carry no operation: a reserved operation code, missing operands, or an operand outside
its stated width (R92; log 12). -/

namespace Sys2Proof.Machine

/-- The legality of the operation with code `op` (R348). -/
def requestLegal (op : Nat) : Legal :=
  if op ∈ [0x03, 0x05, 0x27, 0x28, 0x30, 0x31, 0x35, 0x50, 0x52] then .encode
  else if op ∈ [0x04, 0x29, 0x32, 0x33, 0x34, 0x36, 0x51, 0x53] then .decode
  else .always

/-- Whether the operation with code `op` is a locking one (R349). -/
def requestLocks (op : Nat) : Bool := !decide (op ∈ [0x00, 0x01, 0x02, 0x10, 0x11, 0x12, 0x13])

/-- Answer a request the decoder refuses (R92; log 12). A reserved operation code fails with `ProtocolViolation` and
changes nothing but what the failure entry writes, and a request cut short is treated as a reserved one; where a request
has both faults the operand that comes first decides, as `decodeOperands` reads them (DESIGN CHOICE, log 12). An operand
outside its width is treated by the rule of its operation: `ENCODE_CMD` takes it for a command with no encoding, which
fails at a command boundary and is ignored inside a command (R344); no other rule speaks of it, so it fails, after the
legality check of R348 and the lock of R349. -/
def refuseRequest (e : DecodeError) (bytes : List Byte) (s : State) : Host.Outcome State Fault Refusal :=
  let op := (bytes.head?.getD 0).toNat
  if e = .operandOutOfRange then
    if op = 0x03 then execEncodeCmd (Command.blank 0) s
    else runOp (requestLegal op) (requestLocks op) (raise .protocolViolation) s
  else runOp .always false (raise .protocolViolation) s

end Sys2Proof.Machine
end

