-- ==== Sys2Proof/Machine/Step.lean ====
section
/-! DEFINITION. One step of the CORE: perform the oldest request waiting on the operation port (R90, R21). -/

namespace Sys2Proof.Machine

/-- Take the oldest request off the operation port (log 1). -/
def State.dequeue (rest : List (List Byte)) (s : State) : State := { s with port := { s.port with requests := rest } }

/-- One step. With no request waiting nothing changes (R21). A request that carries no operation, or an operand
outside its width, is answered by `refuseRequest` (R92, R372; log 12). -/
def step (s : State) : Host.Outcome State Fault Refusal :=
  match s.port.requests with
  | [] => .next s
  | bytes :: rest =>
    match decodeRequest bytes with
    | .ok i => exec i (s.dequeue rest)
    | .error e => refuseRequest e bytes (s.dequeue rest)

/-- `s` with the request of a table word as the next one to perform (log 1). -/
def State.withFetchWord (s : State) (nbits w : Nat) : State :=
  { s with port := { s.port with
    requests := (leBytes (nbits / 8) w ++ List.replicate 40 0) :: s.port.requests } }

end Sys2Proof.Machine
end

