-- ==== Sys2Proof/Safety.lean ====
section
/-! DEFINITION. The terms the claims are made in: which instructions are operations and what the spec says of each
(R90, R348, R349, and the writers named in R22 to R34), what a coded integer does when it is complete, and the
properties every step keeps. -/

namespace Sys2Proof.Machine

/-! ### Instructions -/

/-- The instruction is an operation of the operation port, not a coded-nibble row (R90). -/
def isOperation (i : Instr) : Bool :=
  match encode i with
  | .request _ => true
  | .nibble _ _ => false

/-- The operation codes R92 lists as reserved. -/
def reservedCode (op : Nat) : Prop :=
  (0x06 ≤ op ∧ op ≤ 0x0F) ∨ (0x14 ≤ op ∧ op ≤ 0x1F) ∨ (0x2C ≤ op ∧ op ≤ 0x2F) ∨ (0x37 ≤ op ∧ op ≤ 0x3F) ∨
    op = 0x4E ∨ op = 0x4F ∨ 0x54 ≤ op

/-- Legal in an encode session only (R348). -/
def encodeOnly : Instr → Bool
  | .bChunkPutBit _ _ | .bChunkFlush | .nEncPut _ _ | .nFlushChunk | .nPutBit _ _ | .tPutBit _ _
  | .tPutNibble _ _ | .encodeCmd _ | .encFinish => true
  | _ => false

/-- Legal in a decode session only (R348). -/
def decodeOnly : Instr → Bool
  | .bChunkGetBit _ | .nDecFill | .nDecGetOffset | .nDecAdvanceSym _ _ | .nGetBit _ | .tGetBit _
  | .tGetNibble _ | .decodeCmd => true
  | _ => false

/-- The operations that do not lock the configuration (R349). -/
def nonLocking : Instr → Bool
  | .reset | .setCfg _ | .getStatus | .bqNumPushAvail _ | .bqNumPopAvail _ | .bqPushData _ _
  | .bqPopData _ _ => true
  | _ => false

/-- The operations that may write `PRIORS`, `CDF2S` or `MIX` (R44). -/
def writesModel : Instr → Bool
  | .reset | .pBlend _ _ _ | .pAverage _ _ _ | .pWrite _ _ | .p2Blend _ _ _ | .encodeCmd _ | .decodeCmd => true
  | _ => false

/-- The operations that may write the registers and memories of ANS1 (R22, R44). -/
def writesAns1 : Instr → Bool
  | .reset | .setCfg _ | .encFinish | .bEncodeInit | .bEncode _ _ | .bEncodeFlush | .bDecodeInit
  | .bDecodeAdvance _ | .bChunkPutBit _ _ | .bChunkFlush | .bChunkGetBit _ | .b1memWrite _ _
  | .tPutBit _ _ | .tGetBit _ | .tPutNibble _ _ | .tGetNibble _ | .encodeCmd _ | .decodeCmd => true
  | _ => false

/-- The operations that may write the registers and memory of ANS2 (R23, R24, R44). -/
def writesAns2 : Instr → Bool
  | .reset | .setCfg _ | .encFinish | .nEncPut _ _ | .nFlushChunk | .nDecFill | .nDecGetOffset
  | .nDecAdvanceSym _ _ | .nPutBit _ _ | .nGetBit _ | .tPutBit _ _ | .tGetBit _ | .tPutNibble _ _
  | .tGetNibble _ | .encodeCmd _ | .decodeCmd => true
  | _ => false

/-- The operations that may move bytes in or out of a queue (R121, R122). -/
def writesQueues : Instr → Bool
  | .reset | .encFinish | .bqPushData _ _ | .bqPopData _ _ | .bChunkPutBit _ _ | .bChunkFlush
  | .bChunkGetBit _ | .nEncPut _ _ | .nFlushChunk | .nDecFill | .nDecGetOffset | .nPutBit _ _ | .nGetBit _
  | .tPutBit _ _ | .tGetBit _ | .tPutNibble _ _ | .tGetNibble _ | .encodeCmd _ | .decodeCmd => true
  | _ => false

/-- The operations that may write the nibble-tree registers (R26). -/
def writesBitTree : Instr → Bool
  | .reset | .tPutNibble _ _ | .tGetNibble _ | .encodeCmd _ | .decodeCmd => true
  | _ => false

/-- The operations that may write the bookkeeping and sequencing registers (R30, R40, R42). -/
def writesCodec : Instr → Bool
  | .reset | .encodeCmd _ | .decodeCmd => true
  | _ => false

/-- The operations that may write `enc_finished` (R25). -/
def writesEncFinished : Instr → Bool
  | .reset | .encFinish | .nFlushChunk => true
  | _ => false

/-! ### Sessions -/

/-- An encode session that has not failed (R341). -/
def State.encoding (s : State) : Prop := s.ctl.failed = false ∧ s.isDecode = false

/-- A decode session that has not failed (R341). -/
def State.decoding (s : State) : Prop := s.ctl.failed = false ∧ s.isDecode = true

/-- Move `substate`, the command register and the bookkeeping registers, and nothing else. -/
def State.withCodec (s : State) (x : Substate) (c : Command) (ctx : Context) : State :=
  { s with codec := { s.codec with substate := x, cmd := c }, ctx := ctx }

/-- The state a complete tiered integer of value `v` leaves, for each user: R280 for a Copy, R303 for a Literal,
R316 for a Dict, R321 and R324 for a context map. -/
def intResult (u : IntUser) (v : Nat) (s : State) : State :=
  let c := s.codec.cmd
  match u with
  | .copyCount => s.withCodec .countDecoded { c with numBytes := BitVec.ofNat 32 v } s.ctx
  | .literalLen =>
    if Config.literalMaxLen < v then s.failEntry .lengthOutOfRange
    else
      s.withCodec .literalHighEntropy
        { c with
          len := BitVec.ofNat 32 v
          data := if s.isDecode then List.replicate v 0 else c.data } s.ctx
  | .dictField f =>
    match f with
    | 0 => s.withCodec (.dictField 1 .small) { c with wordId := BitVec.ofNat 32 v } s.ctx
    | 1 => s.withCodec (.dictField 2 .small) { c with wordSize := BitVec.ofNat 32 v } s.ctx
    | 2 => s.withCodec (.dictField 3 .small) { c with transform := BitVec.ofNat 32 v } s.ctx
    | 3 => s.withCodec .fullyDecoded { c with finalSize := BitVec.ofNat 32 v } s.ctx
  | .mapCount .literal =>
    if Config.litCmapCapacity < v then s.failEntry .contextMapIndexOutOfRange
    else
      let c := if s.isDecode then { c with litMap := List.replicate v 0 } else c
      if v = 0 then s.withCodec (.mapCount .distance .small) c s.ctx
      else s.withCodec (.mapEntryMnemonic .literal 0) c s.ctx
  | .mapCount .distance =>
    if Config.distCmapCapacity < v then s.failEntry .contextMapIndexOutOfRange
    else
      let c := if s.isDecode then { c with distMap := List.replicate v 0 } else c
      if v = 0 then (s.withCodec (.mapCount .distance .small) c s.ctx).commit
      else s.withCodec (.mapEntryMnemonic .distance 0) c s.ctx

/-- `t` is what completing entry `j` of a map with the value `e` leaves: the value is cached and stored, and the next
entry, the next map or the commit follows (R323, R324). -/
def State.entryCompleted (s : State) (mi : MapId) (j : Nat) (e : Byte) (t : State) : Prop :=
  let ctx := { s.ctx with cmapLru := touch s.ctx.cmapLru e }
  let cmd := match mi with
    | .literal => { s.codec.cmd with litMap := s.codec.cmd.litMap.set j e }
    | .distance => { s.codec.cmd with distMap := s.codec.cmd.distMap.set j e }
  (j + 1 < (commandMap s.codec.cmd mi).length → t = s.withCodec (.mapEntryMnemonic mi (j + 1)) cmd ctx) ∧
  ((commandMap s.codec.cmd mi).length ≤ j + 1 → mi = .literal →
    t = s.withCodec (.mapCount .distance .small) cmd ctx) ∧
  ((commandMap s.codec.cmd mi).length ≤ j + 1 → mi = .distance →
    ∃ litCmap distCmap,
      t = s.withCodec .fullyDecoded cmd { ctx with
        predMode := cmd.pm, speedStride := cmd.speedStride, speedCm := cmd.speedCm,
        litCmap := litCmap, litCmapLen := BitVec.ofNat 15 cmd.litMap.length,
        distCmap := distCmap, distCmapLen := BitVec.ofNat 11 cmd.distMap.length } ∧
      (∀ a, Memory.read 0 litCmap a = (cmd.litMap[a]?).getD (Memory.read 0 s.ctx.litCmap a)) ∧
      ∀ a, Memory.read 0 distCmap a = (cmd.distMap[a]?).getD (Memory.read 0 s.ctx.distCmap a))

/-! ### The batch and the chunk an encoder makes -/

/-- Coding the last `d` of `n` buffered symbols, last first: the two states and the words pushed, in the order they
come out (R172, R173). -/
def symWalk (cell : Nat → SymCell) (n : Nat) : Nat → Nat × Nat × List Byte
  | 0 => (2147483648, 2147483648, [])
  | d + 1 =>
    let (a, b, words) := symWalk cell n d
    let i := n - 1 - d
    let start := (cell i).start.toNat
    let freq := (cell i).freq.toNat
    let x := if i % 2 = 0 then a else b
    let full := 2 ^ 48 * freq ≤ x
    let kept := if full then x / 2 ^ 32 else x
    let x' := kept / freq * 2 ^ 15 + kept % freq + start
    (if i % 2 = 0 then x' else a, if i % 2 = 0 then b else x',
      if full then leBytes 4 (x % 2 ^ 32) ++ words else words)

/-- Coding the last `d` of `n` buffered bits, last first: the register and the bytes of `B1MEM` from the cursor on
(R141, R152). -/
def bitWalk (cell : Nat → BitCell) (n : Nat) : Nat → Nat × List Byte
  | 0 => (2147483648, [])
  | d + 1 =>
    let (r, words) := bitWalk cell n d
    let c := cell (n - 1 - d)
    let ls := if c.bit then 256 - c.p.toNat else c.p.toNat
    let bs := if c.bit then c.p.toNat else 0
    let full := 2 ^ 55 * ls ≤ r
    let kept := if full then r / 2 ^ 32 else r
    (kept / ls * 256 + bs + kept % ls, if full then beBytes 4 (r % 2 ^ 32) ++ words else words)

/-! ### The bytes a decoder takes -/

/-- The registers after taking the bytes `bs`, some or all of those needed: the first go into the state block, each at
its place, low byte first, and the others into the pull, which lands in `state_b` with its last byte (R178). -/
def Ans2.taking (bs : List Byte) (a : Ans2) : Ans2 :=
  let boot := a.bootNeed.toNat
  let pull := a.pullNeed.toNat
  let boots := bs.take boot
  let pulls := bs.drop boot
  let block : BitVec 128 := (a.stateB ++ a.stateA) ||| BitVec.ofNat 128 (fromLE boots * 2 ^ (8 * (16 - boot)))
  let acc : BitVec 32 := a.pullAcc ||| BitVec.ofNat 32 (fromLE pulls * 2 ^ (8 * (4 - pull)))
  let high : BitVec 64 := block.extractLsb' 64 64
  let lands := decide (pull ≠ 0 ∧ pulls.length = pull)
  { a with
    stateA := block.extractLsb' 0 64
    stateB := if lands then BitVec.ofNat 64 (high.toNat * 2 ^ 32 + acc.toNat) else high
    bootNeed := BitVec.ofNat 5 (boot - boots.length)
    pullNeed := BitVec.ofNat 3 (pull - pulls.length)
    pullAcc := if lands then 0 else acc }

/-! ### Cells -/

/-- A cell every `P_BLEND` keeps: each `pdf` at least 4 and the total at most 32350 (R211). -/
def wideCell (x : Cdf16) : Prop := cdf x 15 ≤ 32350 ∧ ∀ i < 16, 4 ≤ pdf x i

/-- A CDF2 with `0 < c[0] < c[1] <= CDF_MAX` (R224). -/
def validCdf2 (x : Cdf2) : Bool :=
  decide (0 < cdf2False x) && decide (cdf2False x < cdf2Total x) && decide (cdf2Total x ≤ Config.cdfMax)

/-! ### Coding a nibble -/

/-- In `DIRECT16` mode the nibble `v` can be coded against the cell `x` now, `want` being the nibble an encoder codes:
the buffer has room (R171, R245), or no byte is missing and the offset lies in the interval of `v` (R246). -/
def State.canCode (s : State) (x : Cdf16) (want v : Nibble) : Prop :=
  s.ctl.failed = false ∧ s.direct16 = true ∧ validCell x = true ∧ (∀ i < 16, 2 ≤ pdf x i) ∧
    (s.isDecode = false → s.ctl.encFinished = false ∧ s.ans2.symCount.toNat < 16384 ∧ v = want) ∧
    (s.isDecode = true → s.ans2.bootNeed = 0 ∧ s.ans2.pullNeed = 0 ∧
      (symStart x v.toNat).toNat ≤ s.ans2.stateA.toNat % 32768 ∧
      s.ans2.stateA.toNat % 32768 < (symStart x v.toNat).toNat + (symFreq x v.toNat).toNat)

/-- `e` is what coding `v` against `x` leaves in ANS2: one more buffered symbol, the interval of `v` (R171, R245), or
what `N_DEC_ADVANCE_SYM` of that interval leaves (R180, R246). -/
def State.codedAs (s : State) (x : Cdf16) (v : Nibble) (e : Ans2) : Prop :=
  (s.isDecode = false → e = { s.ans2 with
    symbuf := Memory.write SymCell.zero s.ans2.symbuf s.ans2.symCount.toNat ⟨symStart x v.toNat, symFreq x v.toNat⟩
    symCount := s.ans2.symCount + 1 }) ∧
  (s.isDecode = true → ∃ u, exec (.nDecAdvanceSym (symStart x v.toNat) (symFreq x v.toNat)) s = .next u ∧
    u.ctl.result = .success ∧ e = u.ans2)

/-- Coding one nibble against a cell that holds `x`, as a whole operation (R262): `T_PUT_NIBBLE` or `T_GET_NIBBLE` on
`MIX`, holding `x`. -/
def State.nibbleOp (s : State) (x : Cdf16) (want : Nibble) : Host.Outcome State Fault Refusal :=
  exec (if s.isDecode then .tGetNibble 41887 else .tPutNibble 41887 want)
    { s with model := { s.model with mix := x } }

/-- `s` with the engines, the queues and the tree registers as `u` has them, where `u` is what the nibble operation from
`s` left: inside a command nothing is answered yet and no cell has changed. -/
def State.within (s u : State) : State :=
  { u with
    ctl := { u.ctl with result := s.ctl.result, cfgLocked := s.ctl.cfgLocked }
    port := s.port
    model := s.model }

/-- The step with the reply `reply` codes `want` against a cell that holds `x`, in either mode and on either engine, and
where the nibble coded is `v` it goes on by `goes` from the state the coding leaves. Where the nibble operation waits the
step suspends with what it has taken or given; where it fails the step fails with its cause; neither goes on (R261,
R262). -/
def State.codesNibble (s : State) (x : Cdf16) (want v : Nibble) (reply : Reply Unit) (goes : State → Prop) : Prop :=
  ∃ u, s.nibbleOp x want = .next u ∧
    (u.ctl.result = .needsMoreInput → reply = .wait .input (s.within u)) ∧
    (u.ctl.result = .needsMoreOutput → reply = .wait .output (s.within u)) ∧
    (u.ctl.result = .failure →
      reply = .fail { s.within u with
        ctl := { u.ctl with cfgLocked := s.ctl.cfgLocked }
        port := u.port }) ∧
    (u.ctl.result = .success →
      ∃ n, (s.isDecode = false → n = want) ∧
        (s.isDecode = true → u.port.response = ⟨.success, .nibble n⟩) ∧ (n = v → goes (s.within u)))

/-- The step with the reply `reply` codes `want` against a cell that holds `x` and goes on by `goes` where the nibble is
`v`: in `DIRECT16` mode with room, or with the bytes there, from the state in which ANS2 has coded `v`, and in general as
`codesNibble` says. -/
def State.codedStep (s : State) (x : Cdf16) (want v : Nibble) (reply : Reply Unit) (goes : State → Prop) : Prop :=
  (s.canCode x want v → ∃ e, s.codedAs x v e ∧ goes { s with ans2 := e }) ∧
    (s.ctl.failed = false → s.codesNibble x want v reply goes)

/-- `t` is `s` with the priors cell at `a` blended for `v` at `speed`; no other cell and nothing else differs (R262). -/
def State.blendedAs (s : State) (a : Nat) (speed : BitVec 3) (v : Nibble) (t : State) : Prop :=
  ∃ priors, Memory.read defaultCdf priors a = blend (s.prior a) v.toNat speed ∧
    (∀ b, b ≠ a → Memory.read defaultCdf priors b = s.prior b) ∧
    t = { s with model := { s.model with priors := priors } }

/-- The first cell of the tiered integer of a user (R70, R263). -/
def IntUser.cells (u : IntUser) (s : State) : Nat :=
  match u with
  | .copyCount => 4096 + s.ctx.btypeCmd.toNat * 12
  | .literalLen => 9728 + s.ctx.btypeLit.toNat * 12
  | .dictField f => 29440 + (s.ctx.btypeCmd.toNat * 4 + f.val) * 12
  | .mapCount .literal => 41827
  | .mapCount .distance => 41827 + 12

/-- The value an encoder codes for a user (R263, R316, R321). -/
def IntUser.operand (u : IntUser) (c : Command) : Nat :=
  match u with
  | .copyCount => c.numBytes.toNat
  | .literalLen => c.len.toNat
  | .dictField 0 => c.wordId.toNat
  | .dictField 1 => c.wordSize.toNat
  | .dictField 2 => c.transform.toNat
  | .dictField 3 => c.finalSize.toNat
  | .mapCount .literal => c.litMap.length
  | .mapCount .distance => c.distMap.length

/-- The distance slot; none where the index is beyond the distance map (R285). -/
def State.distSlot? (s : State) : Option Nat :=
  let nb := s.codec.cmd.numBytes.toNat
  let dctx := if nb ≤ 2 then 0 else if nb = 3 then 1 else if nb = 4 then 2 else 3
  let idx := (s.ctx.btypeDist.toNat * 4) ||| dctx
  if s.ctx.distCmapLen = 0 then some 0
  else if s.ctx.distCmapLen.toNat ≤ idx then none
  else some (Memory.read 0 s.ctx.distCmap idx).toNat

/-- The values of the distance mnemonics 0 to 14 (R286). -/
def mnemonicValues (lru : Vector (BitVec 32) 4) : List Int :=
  let l := fun i => ((lru[i]?.getD 0).toNat : Int)
  [l 0, l 1, l 2, l 3, l 0 - 1, l 0 + 1, l 0 - 2, l 0 + 2, l 0 - 3, l 0 + 3, l 1 - 1, l 1 + 1, l 1 - 2, l 1 + 2,
    l 1 - 3]

/-- A nibble a codec step codes and reads by a value table: the table, the cell, the speed of its blend, and the nibble
an encoder chooses. -/
structure TableNibble where
  table : NibbleTable
  cell  : Nat
  speed : BitVec 3
  want  : Nibble

/-- The least number of nibbles that holds `v`, less one: the mantissa header of `v` (R267, R288). -/
def headerOf (v : Nat) : Nibble := BitVec.ofNat 4 (max 1 ((bitlen v + 3) / 4) - 1)

/-- The nibble of a stage of a tiered integer (R264 to R267, R269, R281). -/
def IntStage.tableNibble (u : IntUser) (stage : IntStage) (s : State) : Option TableNibble :=
  let c := s.codec.cmd
  let v := u.operand c
  let copy := decide (u = .copyCount)
  let small : Nibble :=
    if copy = true ∧ s.ctl.cfg.getLsbD 4 = true ∧ c.numBytes = 1 ∧ c.distance = s.ctx.distanceLru[0] then 12
    else if v ≤ 9 then BitVec.ofNat 4 v
    else if v ≤ (if copy then 17 else 14) then 10
    else if v ≤ 24 then 11
    else 13
  match stage with
  | .small => some ⟨.small, u.cells s, 5, small⟩
  | .first => some ⟨if copy then .firstCopy else .firstLit, u.cells s + 1, 5, BitVec.ofNat 4 (v - 10)⟩
  | .greater =>
    some ⟨if copy then .greaterCopy else .greaterLit, u.cells s + 2, 5,
      BitVec.ofNat 4 (v - if copy then 18 else 15)⟩
  | .mantissaHeader => some ⟨.header, u.cells s + 3, 4, headerOf v⟩
  | .mantissaNibbles _ _ _ => none

/-- The nibble the next codec step codes and reads by a value table, if it does that (R287, R288, R301, R304, R320, R322;
the speeds of R269 and R331). -/
def State.tableNibble (s : State) : Option TableNibble :=
  let c := s.codec.cmd
  match s.codec.top with
  | .topBegin => some ⟨.cmdType, s.ctx.btypeCmd.toNat * 16 + s.ctx.lastCmd.toNat, 5, c.kind⟩
  | .topEof => none
  | .inCommand =>
    match s.codec.substate with
    | .distanceLengthMnemonic =>
      s.distSlot?.map fun slot =>
        ⟨.distMnemonic, 7168 + slot * 10, 5, BitVec.ofNat 4
          ((mnemonicValues s.ctx.distanceLru).findIdx fun v =>
            decide (v = (c.distance.toNat : Int) ∧ 1 ≤ v ∧ v ≤ 4294967295))⟩
    | .distanceLengthFirst =>
      s.distSlot?.map fun slot => ⟨.header, 7168 + slot * 10 + 1, 4, headerOf c.distance.toNat⟩
    | .literalHighEntropy =>
      some ⟨.highEntropy, 12800 + s.ctx.btypeLit.toNat, 4, if c.highEntropy then 1 else 0⟩
    | .predMode => some ⟨.predMode, 41824, 4, c.pm.setWidth 4⟩
    | .predSpeedStride => some ⟨.speed, 41825, 4, c.speedStride.setWidth 4⟩
    | .predSpeedCm => some ⟨.speed, 41826, 4, c.speedCm.setWidth 4⟩
    | .mapEntryMnemonic mi j =>
      let e := ((commandMap c mi)[j]?).getD 0
      some ⟨.cmapEntry, if mi = .literal then 41851 else 41869, 5,
        BitVec.ofNat 4 (s.ctx.cmapLru.toList.findIdx fun x => decide (x = e))⟩
    | x =>
      match x.intStage with
      | some (u, stage) => stage.tableNibble u s
      | none => none

/-! ### The bit-tree -/

/-- The tree registers a nibble operation starts from: those of a suspended nibble, or fresh ones (R243, R244). -/
def BitTree.begun (x : Cdf16) (b : BitTree) : BitTree :=
  if b.active then b else { active := true, k := 3, loSym := 0, lo := 0, hi := x[15], nib := 0 }

/-- The count at the cut of the level in progress, `mid` (R243). -/
def BitTree.cut (x : Cdf16) (b : BitTree) : Nat := cdf x (b.loSym.toNat + 2 ^ b.k.toNat - 1)

/-- The probability of false at the level in progress, for `lo <= mid` and `lo < hi`. R240 gives it for `lo < mid < hi`;
its formula at `mid = lo` and at `hi <= mid` is the model's choice (DEDUCED, log 4). -/
def BitTree.share (x : Cdf16) (b : BitTree) : Byte :=
  BitVec.ofNat 8 (max 1 (min 255 ((b.cut x - b.lo.toNat) * 256 / (b.hi.toNat - b.lo.toNat))))

/-- The registers after the bit of the level in progress (R243, R244). -/
def BitTree.narrowed (x : Cdf16) (bit : Bool) (b : BitTree) : BitTree :=
  let k := b.k.toNat
  { active := b.active
    k := BitVec.ofNat 2 (k - 1)
    loSym := if bit then b.loSym + BitVec.ofNat 4 (2 ^ k) else b.loSym
    lo := if bit then BitVec.ofNat 16 (b.cut x) else b.lo
    hi := if bit then b.hi else BitVec.ofNat 16 (b.cut x)
    nib := if bit then b.nib ||| BitVec.ofNat 4 (2 ^ k) else b.nib }

/-! ### Properties every step keeps -/

/-- Every memory is in its canonical form. -/
def State.memoriesCanonical (s : State) : Bool :=
  Memory.wf 0 s.queues.inMem && Memory.wf 0 s.queues.outMem && Memory.wf BitCell.zero s.ans1.buf &&
    Memory.wf 0 s.ans1.mem && Memory.wf SymCell.zero s.ans2.symbuf && Memory.wf defaultCdf s.model.priors &&
    Memory.wf defaultCdf2 s.model.cdf2s && Memory.wf 0 s.ctx.litCmap && Memory.wf 0 s.ctx.distCmap

/-- `CFG` holds a configuration `SET_CFG` takes: bit 3 reads 0, and not ANS1 with DIRECT16 (R34). -/
def State.cfgLegal (s : State) : Prop :=
  s.ctl.cfg.getLsbD 3 = false ∧ (s.ctl.cfg.getLsbD 1 = false → s.ctl.cfg.getLsbD 2 = false)

/-- `ERRCODE` is 0 before a failure and the code of a cause the CORE raises after one, and a failed session's last
result is `Failure` unless the status has only been read (R36, R361, R372). -/
def State.failureRecorded (s : State) : Prop :=
  (s.ctl.failed = false → s.ctl.errcode = 0) ∧
    (s.ctl.failed = true →
      s.ctl.errcode ∈ [1, 2, 3, 4, 6, 7, 8, 9, 10, 11, 12] ∧ s.ctl.result = .failure)

/-- `eof_seen` is 1 exactly when no further command is legal (R30, R40, R302). -/
def State.eofConsistent (s : State) : Prop := s.ctx.eofSeen = true ↔ s.codec.top = .topEof

/-- The index and counting registers are in their ranges (R22, R23, R24, R121, R122). A decoder counts a full batch
as 0 (R180), and before the first locking operation nothing has been counted. -/
def State.indicesInRange (s : State) : Prop :=
  s.queues.inRd.toNat ≤ 65536 ∧ s.queues.inWr.toNat ≤ 65536 ∧ s.queues.outLo.toNat ≤ 65536 ∧
    s.ans1.cursor.toNat ≤ 65536 ∧ s.ans1.count.toNat ≤ 16384 ∧
    s.ans2.symCount.toNat ≤ 16384 ∧ s.ans2.bootNeed.toNat ≤ 16 ∧ s.ans2.pullNeed.toNat ≤ 4 ∧
    (s.isDecode = true → s.ans2.symCount.toNat < 16384) ∧
    (s.ctl.cfgLocked = false → s.ans2.symCount = 0)

/-- Every `PRIORS` cell and every CDF2 is valid (R221, R224, R369), and every weight is at most 32768 (R30, R313). -/
def State.cellsValid (s : State) : Prop :=
  (∀ a, validCell (s.prior a) = true) ∧ (∀ a2, validCdf2 (s.cdf2 a2) = true) ∧
    ∀ i : Fin 32, s.ctx.weights[i].toNat ≤ 32768

/-- The parameters of a mantissa stage are those of R268: something remains, and at most 8 in all. -/
def mantissaOk (ld lr : BitVec 4) : Prop := 1 ≤ lr.toNat ∧ ld.toNat + lr.toNat ≤ 8

/-- The stage's parameters are in range (R263, R268). -/
def IntStage.ok : IntStage → Prop
  | .mantissaNibbles ld lr _ => mantissaOk ld lr
  | _ => True

/-- The substate is one of the command's kind, with its parameters in range (R41). -/
def Substate.ofCommand (c : Command) : Substate → Prop
  | .begin => True
  | .fullyDecoded => True
  | .countSmall | .countLengthFirst | .countLengthGreater18Less25 | .countMantissaHeader | .countDecoded
  | .distanceLengthMnemonic | .distanceLengthFirst => c.kind = 1
  | .countMantissaNibbles ld lr _ => c.kind = 1 ∧ mantissaOk ld lr
  | .distanceMantissaNibbles ld lr _ => c.kind = 1 ∧ mantissaOk ld lr
  | .literalCountSmall | .literalCountFirst | .literalCountLengthGreater14Less25
  | .literalCountMantissaHeader | .literalHighEntropy => c.kind = 3
  | .literalCountMantissaNibbles ld lr _ => c.kind = 3 ∧ mantissaOk ld lr
  | .literalNibbleIndex idx => c.kind = 3 ∧ idx.toNat < 2 * c.len.toNat
  | .dictField _ stage => c.kind = 2 ∧ stage.ok
  | .blockTypeHigh | .blockTypeLow => c.kind = 4 ∨ c.kind = 5 ∨ c.kind = 6
  | .predMode | .predSpeedStride | .predSpeedCm => c.kind = 7
  | .mapCount _ stage => c.kind = 7 ∧ stage.ok
  | .mapEntryMnemonic _ _ | .mapEntryHigh _ _ | .mapEntryLow _ _ => c.kind = 7

/-- Between commands the codec stands at `Begin`; inside one, at a substate of a command kind of R97 (R41, R300,
R302). -/
def State.sequenceOk (s : State) : Prop :=
  (s.codec.top ≠ .inCommand → s.codec.substate = .begin) ∧
    (s.codec.top = .inCommand →
      s.codec.cmd.kind ∈ ([1, 2, 3, 4, 5, 6, 7, 15] : List Nibble) ∧ s.codec.substate.ofCommand s.codec.cmd)

end Sys2Proof.Machine
end

