-- ==== Sys2Proof/Certificates/Slice0/Obligations.lean ====
section
/-! DEFINITION. The statements about the machine. Every one names the rules of spec/ it comes from. -/

open Sys2Proof Sys2Proof.Machine

/-! ### Requests, decoding, encoding -/

/-- A step performs the oldest request: `exec` of the instruction it decodes to, at the state without that request.
With no request nothing changes (R21, R90). That requests wait in a list is the model's choice (log 1). -/
def Obligations.StepRunsDecodedRequest : Prop :=
  ∀ s : State,
    (s.port.requests = [] → step s = .next s) ∧
      ∀ bytes rest i, s.port.requests = bytes :: rest → decode (.request bytes) = .ok i →
        step s = exec i (s.dequeue rest)

/-- R92: a request with a reserved operation code fails with `ProtocolViolation` by the failure entry of R372 and
changes nothing else; in a failed session it answers `Failure`. -/
def Obligations.ReservedCodeFails : Prop :=
  ∀ (s : State) (op : Byte) (bs : List Byte) (rest : List (List Byte)),
    s.port.requests = (op :: bs) :: rest → reservedCode op.toNat →
      (s.ctl.failed = false → step s = .next ((s.dequeue rest).failEntry .protocolViolation)) ∧
        (s.ctl.failed = true → step s = .next (s.dequeue rest).refuseFailed)

/-- Decoding inverts encoding on every well-formed instruction, with every operand, and whatever the decoder gives is
well formed (the layout of a request is the model's choice, log 1; the codes are R90's, the nibbles those of R97 and
R99 to R104). -/
def Obligations.DecodeInvertsEncode : Prop :=
  (∀ i : Instr, i.wf = true → decode (encode i) = .ok i) ∧
    ∀ (w : CodeWord) (i : Instr), decode w = .ok i → i.wf = true

/-- A few words decode to what they stand for: the operation codes are R90's and the coded nibbles those of the value
tables; how the operands follow the operation code is the model's choice (log 1). -/
def Obligations.DecodesWrittenWords : Prop :=
  decode (.request [0x00]) = .ok .reset ∧
    decode (.request [0x01, 0x07]) = .ok (.setCfg 0x07) ∧
    decode (.request [0x13, 0x01, 0x03, 0x00, 0x00, 0x00]) = .ok (.bqPopData .output 3) ∧
    decode (.request [0x21, 0x01, 0x80]) = .ok (.bEncode true 0x80) ∧
    decode (.request [0x30, 0x01, 0x08, 0xFF, 0x07]) = .ok (.nEncPut 2049 2047) ∧
    decode (.request [0x44, 0x9F, 0xA3, 0x03, 0x05]) = .ok (.pBlend 41887 3 5) ∧
    decode (.request [0x50, 0x00, 0x10, 0x0F]) = .ok (.tPutNibble 4096 15) ∧
    decode (.nibble .cmdType 15) = .ok .cmdEof ∧
    decode (.nibble .small 12) = .ok .smallRepeat ∧
    decode (.nibble .distMnemonic 15) = .ok .distEscape ∧
    decode (.request [0x06]) = .error .reservedOp

/-! ### Sessions -/

/-- R340, R391: `RESET` answers `Success` in every state, also after a failure, and leaves every register and every
memory cell at its reset value. The waiting requests are outside the CORE and stay (log 1). -/
def Obligations.ResetRestoresEverything : Prop :=
  ∀ s : State, ∃ t, exec .reset s = .next t ∧
    t.port.requests = s.port.requests ∧ t.port.response = ⟨.success, .nothing⟩ ∧
    t.ctl = { cfg := 0x06, result := .success, failed := false, cfgLocked := false, errcode := 0,
              encFinished := false } ∧
    t.status = 0 ∧
    (t.ans1.r = 0x80000000 ∧ t.ans1.cursor = 65536 ∧ t.ans1.count = 0 ∧ t.ans1.phase = .needHdr ∧
      t.ans1.len = 0) ∧
    (t.ans2.stateA = 0x80000000 ∧ t.ans2.stateB = 0x80000000 ∧ t.ans2.symCount = 0 ∧ t.ans2.bootNeed = 0 ∧
      t.ans2.pullNeed = 0 ∧ t.ans2.pullAcc = 0) ∧
    t.bt = { active := false, k := 3, loSym := 0, lo := 0, hi := 0, nib := 0 } ∧
    (t.ctx.distanceLru = #v[4, 11, 15, 16] ∧ t.ctx.cmapLru = #v[0, 1, 2, 3, 4, 5, 6, 7, 8, 9, 10, 11, 12] ∧
      t.ctx.btypeLit = 0 ∧ t.ctx.btypeCmd = 0 ∧ t.ctx.btypeDist = 0 ∧ t.ctx.lastCmd = 0 ∧
      t.ctx.predMode = 0 ∧ t.ctx.speedStride = 4 ∧ t.ctx.speedCm = 4 ∧ t.ctx.litCmapLen = 0 ∧
      t.ctx.distCmapLen = 0 ∧ t.ctx.eofSeen = false ∧ (∀ i : Fin 8, t.ctx.hist[i] = 0) ∧
      ∀ i : Fin 32, t.ctx.weights[i] = 16384) ∧
    t.codec = { top := .topBegin, substate := .begin, cmd := Command.blank 0 } ∧
    (t.queues.inRd = 0 ∧ t.queues.inWr = 0 ∧ t.queues.outLo = 65536 ∧
      (∀ a, Memory.read 0 t.queues.inMem a = 0) ∧ ∀ a, Memory.read 0 t.queues.outMem a = 0) ∧
    (∀ a, Memory.read SymCell.zero t.ans2.symbuf a = ⟨0, 0⟩) ∧
    (∀ a, Memory.read BitCell.zero t.ans1.buf a = ⟨false, 0⟩) ∧
    (∀ a, Memory.read 0 t.ans1.mem a = 0) ∧ (∀ a, Memory.read 0 t.ctx.litCmap a = 0) ∧
    (∀ a, Memory.read 0 t.ctx.distCmap a = 0) ∧ (∀ a i, i < 16 → cdf (t.prior a) i = 4 * (i + 1)) ∧
    (∀ i, i < 16 → cdf t.model.mix i = 4 * (i + 1)) ∧ ∀ a2, t.cdf2 a2 = #v[4, 8]

/-- R342: what `SET_CFG` does in a session that has not failed, in all its cases. -/
def Obligations.SetCfgConfigures : Prop :=
  ∀ (s : State) (cfg : BitVec 8), s.ctl.failed = false →
    (s.ctl.cfgLocked = true → exec (.setCfg cfg) s = .next (s.failEntry .protocolViolation)) ∧
    (s.ctl.cfgLocked = false →
      cfg.getLsbD 3 = true ∨ (cfg.getLsbD 1 = false ∧ cfg.getLsbD 2 = true) →
        exec (.setCfg cfg) s = .next (s.failEntry .illegalConfiguration)) ∧
    (s.ctl.cfgLocked = false → cfg.getLsbD 3 = false → (cfg.getLsbD 1 = true ∨ cfg.getLsbD 2 = false) →
      exec (.setCfg cfg) s =
        .next (({ s with
          ctl := { s.ctl with cfg := cfg }
          ans1 := { s.ans1 with cursor := if cfg.getLsbD 0 then 0 else 65536 }
          ans2 := { s.ans2 with
            stateA := if cfg.getLsbD 0 then 0 else 0x80000000
            stateB := if cfg.getLsbD 0 then 0 else 0x80000000
            bootNeed := if cfg.getLsbD 0 then 16 else 0 } } : State).answer .success .nothing))

/-- R343, R35: `GET_STATUS` answers in every state, also after a failure; it returns the eight status bits and
`ERRCODE` and changes nothing but the response. -/
def Obligations.GetStatusReads : Prop :=
  ∀ s : State, ∃ st : BitVec 8,
    exec .getStatus s =
      .next { s with port := { s.port with response := ⟨.success, .status st s.ctl.errcode⟩ } } ∧
    st.extractLsb' 0 2 = s.ctl.result.code ∧ st.getLsbD 2 = s.ctl.failed ∧ st.getLsbD 3 = s.ctx.eofSeen ∧
    st.getLsbD 4 = s.ctl.cfgLocked ∧ st.getLsbD 5 = s.ctl.encFinished ∧ st.getLsbD 7 = s.bt.active ∧
    (st.getLsbD 6 = true ↔
      s.ctl.cfg.getLsbD 0 = true ∧
        ((s.ctl.cfg.getLsbD 1 = true ∧ (s.ans2.bootNeed ≠ 0 ∨ s.ans2.pullNeed ≠ 0)) ∨
          (s.ctl.cfg.getLsbD 1 = false ∧ s.ans1.phase ≠ .run)))

/-- R346: `ENC_FINISH` in an encode session. Inside a command or a bit-tree nibble it fails; with nothing buffered it
only finishes; with something buffered and `OUT` not empty it waits; and after a flush that succeeded it finishes. -/
def Obligations.EncFinishOutcomes : Prop :=
  ∀ s : State, s.encoding →
    (s.codec.top = .inCommand ∨ s.bt.active = true →
      exec .encFinish s = .next (s.lock.failEntry .protocolViolation)) ∧
    (s.codec.top ≠ .inCommand → s.bt.active = false →
      ((if s.engineAns2 then s.ans2.symCount = 0 else s.ans1.count = 0) →
        exec .encFinish s =
          .next (({ s.lock with ctl := { s.lock.ctl with encFinished := true } } : State).answer
            .success .nothing)) ∧
      ((if s.engineAns2 then s.ans2.symCount ≠ 0 else s.ans1.count ≠ 0) → s.queues.outLo.toNat < 65536 →
        exec .encFinish s = .next (s.lock.answer .needsMoreOutput .nothing)) ∧
      ∀ t, exec (if s.engineAns2 then .nFlushChunk else .bChunkFlush) s = .next t →
        t.ctl.result = .success →
          exec .encFinish s = .next { t with ctl := { t.ctl with encFinished := true } })

/-- R372: the failure entry records the first cause, marks the session failed and answers `Failure`; from then on every
operation but `RESET` and `GET_STATUS` does only `STATUS.RESULT <- 3` and answers `Failure`. -/
def Obligations.FailureIsSticky : Prop :=
  (∀ (c : Cause) (s : State),
    s.failEntry c =
      { s with
        ctl := { s.ctl with
          failed := true, result := .failure, errcode := if s.ctl.failed then s.ctl.errcode else c.code }
        port := { s.port with response := ⟨.failure, .nothing⟩ } }) ∧
  ∀ (i : Instr) (s : State), isOperation i = true → i ≠ .reset → i ≠ .getStatus → s.ctl.failed = true →
    exec i s =
      .next { s with
        ctl := { s.ctl with result := .failure }
        port := { s.port with response := ⟨.failure, .nothing⟩ } }

/-- R348, R349: an operation that is not legal in the session mode fails with `ProtocolViolation` and changes nothing
else (that it does not lock the configuration either is the model's reading, log 7); every operation that is legal in
the session locks the configuration, but for the seven that do not; `RESET` unlocks it. -/
def Obligations.ModesAndLocking : Prop :=
  (∀ (i : Instr) (s : State), s.ctl.failed = false →
     (encodeOnly i = true ∧ s.isDecode = true) ∨ (decodeOnly i = true ∧ s.isDecode = false) →
       exec i s = .next (s.failEntry .protocolViolation)) ∧
  ∀ (i : Instr) (s t : State), isOperation i = true → s.ctl.failed = false →
    ¬(encodeOnly i = true ∧ s.isDecode = true) → ¬(decodeOnly i = true ∧ s.isDecode = false) →
      exec i s = .next t →
        t.ctl.cfgLocked = if i = .reset then false else if nonLocking i then s.ctl.cfgLocked else true

/-- R91: every operation writes the result it answers to `STATUS.RESULT`, but for `GET_STATUS`, which leaves the
control registers as they are. -/
def Obligations.ResultIsLatched : Prop :=
  ∀ (i : Instr) (s t : State), isOperation i = true → exec i s = .next t →
    (i ≠ .getStatus → t.ctl.result = t.port.response.result) ∧ (i = .getStatus → t.ctl = s.ctl)

/-! ### Byte queues -/

/-- R121, R122, R123, R125: the two counts of each queue, and what a pop takes out and returns. -/
def Obligations.QueueCountsAndPops : Prop :=
  ∀ s : State, s.ctl.failed = false → s.queues.inRd.toNat ≤ 65536 → s.queues.inWr.toNat ≤ 65536 →
    s.queues.outLo.toNat ≤ 65536 →
    ∃ inPop inPush : Nat,
      (inPop : Int) = ((s.queues.inWr.toNat : Int) - s.queues.inRd.toNat) % 65537 ∧ inPop + inPush = 65536 ∧
      exec (.bqNumPopAvail .input) s = .next (s.answer .success (.avail (BitVec.ofNat 32 inPop))) ∧
      exec (.bqNumPushAvail .input) s = .next (s.answer .success (.avail (BitVec.ofNat 32 inPush))) ∧
      exec (.bqNumPopAvail .output) s =
        .next (s.answer .success (.avail (BitVec.ofNat 32 (65536 - s.queues.outLo.toNat)))) ∧
      exec (.bqNumPushAvail .output) s =
        .next (s.answer .success (.avail (BitVec.ofNat 32 s.queues.outLo.toNat))) ∧
      (∀ len : BitVec 32, ∃ n dst, n = min len.toNat inPop ∧ dst.length = n ∧
        (∀ i < n, dst[i]? = some (Memory.read 0 s.queues.inMem ((s.queues.inRd.toNat + i) % 65537))) ∧
        exec (.bqPopData .input len) s =
          .next (({ s with queues := { s.queues with
            inRd := BitVec.ofNat 17 ((s.queues.inRd.toNat + n) % 65537) } } : State).answer .success
              (.popped (BitVec.ofNat 32 n) dst))) ∧
      ∀ len : BitVec 32, ∃ n dst, n = min len.toNat (65536 - s.queues.outLo.toNat) ∧ dst.length = n ∧
        (∀ i < n, dst[i]? = some (Memory.read 0 s.queues.outMem (s.queues.outLo.toNat + i))) ∧
        exec (.bqPopData .output len) s =
          .next (({ s with queues := { s.queues with
            outLo := BitVec.ofNat 17 (s.queues.outLo.toNat + n) } } : State).answer .success
              (.popped (BitVec.ofNat 32 n) dst))

/-- R124: `BQ_PUSH_DATA` takes the first `min(length(src), push_avail(q))` bytes, puts them at the slots the rule
names, leaves every other slot and everything else as it was, and returns how many it took. -/
def Obligations.PushDataStores : Prop :=
  ∀ (s : State) (src : List Byte), s.ctl.failed = false → s.memoriesCanonical = true →
    s.queues.inRd.toNat ≤ 65536 → s.queues.inWr.toNat ≤ 65536 → s.queues.outLo.toNat ≤ 65536 →
    (∃ n t, n = min src.length (s.queues.pushAvail .input) ∧
      exec (.bqPushData .input src) s = .next t ∧
      t = ({ s with queues := { s.queues with inMem := t.queues.inMem, inWr := t.queues.inWr } } : State).answer
        .success (.count (BitVec.ofNat 32 n)) ∧
      t.queues.inWr.toNat = (s.queues.inWr.toNat + n) % 65537 ∧
      (∀ i < n, src[i]? = some (Memory.read 0 t.queues.inMem ((s.queues.inWr.toNat + i) % 65537))) ∧
      ∀ a, (∀ i < n, a ≠ (s.queues.inWr.toNat + i) % 65537) →
        Memory.read 0 t.queues.inMem a = Memory.read 0 s.queues.inMem a) ∧
    ∃ n t, n = min src.length s.queues.outLo.toNat ∧
      exec (.bqPushData .output src) s = .next t ∧
      t = ({ s with queues := { s.queues with outMem := t.queues.outMem, outLo := t.queues.outLo } } : State).answer
        .success (.count (BitVec.ofNat 32 n)) ∧
      t.queues.outLo.toNat = s.queues.outLo.toNat - n ∧
      (∀ i < n, src[i]? = some (Memory.read 0 t.queues.outMem (s.queues.outLo.toNat - n + i))) ∧
      ∀ a, (∀ i < n, a ≠ s.queues.outLo.toNat - n + i) →
        Memory.read 0 t.queues.outMem a = Memory.read 0 s.queues.outMem a

/-- R126: `IN` gives back its bytes in the order they went in; `OUT` gives back the block pushed last first, and each
block in its own order. -/
def Obligations.QueueOrder : Prop :=
  ∀ (qs : Queues) (src : List Byte), Memory.wf 0 qs.inMem = true → Memory.wf 0 qs.outMem = true →
    qs.inRd.toNat ≤ 65536 → qs.inWr.toNat ≤ 65536 → qs.outLo.toNat ≤ 65536 →
    (qs.push .input src).popBytes .input 65536 =
        qs.popBytes .input 65536 ++ src.take (qs.pushCount .input src) ∧
      (qs.push .output src).popBytes .output 65536 =
        src.take (qs.pushCount .output src) ++ qs.popBytes .output 65536

/-! ### ANS1 -/

/-- R141, R140: `B_ENCODE` in all its cases, with the word it writes when `r` has reached `x_max`. -/
def Obligations.BitEncodeResult : Prop :=
  ∀ (s : State) (bit : Bool) (p : Byte), s.ctl.failed = false → s.memoriesCanonical = true →
    let ls := if bit then 256 - p.toNat else p.toNat
    let bs := if bit then p.toNat else 0
    let r := s.ans1.r.toNat
    let next := fun x => BitVec.ofNat 64 (x / ls * 256 + bs + x % ls)
    (p = 0 → exec (.bEncode bit p) s = .next (s.lock.failEntry .protocolViolation)) ∧
    (p ≠ 0 → r < 2 ^ 55 * ls →
      exec (.bEncode bit p) s =
        .next (({ s.lock with ans1 := { s.ans1 with r := next r } } : State).answer .success .nothing)) ∧
    (p ≠ 0 → 2 ^ 55 * ls ≤ r → s.ans1.cursor.toNat < 4 →
      exec (.bEncode bit p) s = .next (s.lock.failEntry .protocolViolation)) ∧
    (p ≠ 0 → 2 ^ 55 * ls ≤ r → 4 ≤ s.ans1.cursor.toNat →
      ∃ mem, exec (.bEncode bit p) s =
          .next (({ s.lock with ans1 := { s.ans1 with
            r := next (r / 2 ^ 32), cursor := s.ans1.cursor - 4, mem := mem } } : State).answer
              .success .nothing) ∧
        (∀ i < 4, Memory.read 0 mem (s.ans1.cursor.toNat - 4 + i) =
          BitVec.ofNat 8 (r / 2 ^ (8 * (3 - i)))) ∧
        ∀ a, a < s.ans1.cursor.toNat - 4 ∨ s.ans1.cursor.toNat ≤ a →
          Memory.read 0 mem a = Memory.read 0 s.ans1.mem a)

/-- R142, R143, R147, R148: starting and flushing the raw coder, starting its decoder, and reading and writing
`B1MEM`. -/
def Obligations.RawCoderAndMemory : Prop :=
  ∀ s : State, s.ctl.failed = false → s.memoriesCanonical = true →
    exec .bEncodeInit s =
        .next (({ s.lock with ans1 := { s.ans1 with r := 0x80000000, cursor := 65536 } } : State).answer
          .success .nothing) ∧
    (s.ans1.cursor.toNat < 8 → exec .bEncodeFlush s = .next (s.lock.failEntry .protocolViolation)) ∧
    (8 ≤ s.ans1.cursor.toNat →
      ∃ mem, exec .bEncodeFlush s =
          .next (({ s.lock with ans1 := { s.ans1 with cursor := s.ans1.cursor - 8, mem := mem } } : State).answer
            .success .nothing) ∧
        (∀ i < 8, Memory.read 0 mem (s.ans1.cursor.toNat - 8 + i) =
          BitVec.ofNat 8 (s.ans1.r.toNat / 2 ^ (8 * (7 - i)))) ∧
        ∀ a, a < s.ans1.cursor.toNat - 8 ∨ s.ans1.cursor.toNat ≤ a →
          Memory.read 0 mem a = Memory.read 0 s.ans1.mem a) ∧
    (∃ r : BitVec 64,
      exec .bDecodeInit s =
          .next (({ s.lock with ans1 := { s.ans1 with r := r, cursor := 8 } } : State).answer
            .success .nothing) ∧
        ∀ i < 8, BitVec.ofNat 8 (r.toNat / 2 ^ (8 * (7 - i))) = Memory.read 0 s.ans1.mem i) ∧
    (∀ addr : BitVec 16,
      exec (.b1memRead addr) s =
        .next (s.lock.answer .success (.byte (Memory.read 0 s.ans1.mem addr.toNat)))) ∧
    ∀ (addr : BitVec 16) (byte : Byte), ∃ mem,
      exec (.b1memWrite addr byte) s =
          .next (({ s.lock with ans1 := { s.ans1 with mem := mem } } : State).answer .success .nothing) ∧
        ∀ a, Memory.read 0 mem a = if a = addr.toNat then byte else Memory.read 0 s.ans1.mem a

/-- R144, R145, R146: the three decode operations of ANS1 in all their cases, issued by the host (limit 65536). -/
def Obligations.BitDecodeResult : Prop :=
  ∀ s : State, s.ctl.failed = false →
    (exec (.bDecode 0) s = .next (s.lock.failEntry .protocolViolation)) ∧
    (∀ p : Byte, p ≠ 0 → ∃ bit : Bool, ∃ x1 : BitVec 64,
      (bit = true ↔ p.toNat ≤ s.ans1.r.toNat % 256) ∧
      x1.toNat + (if bit then p.toNat else 0) =
        (if bit then 256 - p.toNat else p.toNat) * (s.ans1.r.toNat / 256) + s.ans1.r.toNat % 256 ∧
      exec (.bDecode p) s = .next (s.lock.answer .success (.x1Bit x1 bit))) ∧
    ∀ x1 : BitVec 64,
      exec (.bDecodeWillAdvance x1) s =
          .next (s.lock.answer .success (.adv (decide (x1.toNat < 2147483648)))) ∧
      (2147483648 ≤ x1.toNat →
        exec (.bDecodeAdvance x1) s =
          .next (({ s.lock with ans1 := { s.ans1 with r := x1 } } : State).answer .success .nothing)) ∧
      (x1.toNat < 2147483648 → 65536 < s.ans1.cursor.toNat + 4 →
        exec (.bDecodeAdvance x1) s = .next (s.lock.failEntry .malformedChunk)) ∧
      (x1.toNat < 2147483648 → s.ans1.cursor.toNat + 4 ≤ 65536 →
        ∃ r : BitVec 64, r.toNat / 2 ^ 32 = x1.toNat ∧
          (∀ i < 4, BitVec.ofNat 8 (r.toNat / 2 ^ (8 * (3 - i))) =
            Memory.read 0 s.ans1.mem (s.ans1.cursor.toNat + i)) ∧
          exec (.bDecodeAdvance x1) s =
            .next (({ s.lock with ans1 := { s.ans1 with r := r, cursor := s.ans1.cursor + 4 } } : State).answer
              .success .nothing))

/-- R150: a `B_ENCODE` keeps `L <= r < 2^63`, and `B_DECODE` followed by `B_DECODE_ADVANCE` returns the bit and takes
`r` and the cursor back. -/
def Obligations.RawBitRoundTrip : Prop :=
  ∀ (s : State) (bit : Bool) (p : Byte), s.ctl.failed = false → s.memoriesCanonical = true → p ≠ 0 →
    2147483648 ≤ s.ans1.r.toNat → s.ans1.r.toNat < 2 ^ 63 →
    4 ≤ s.ans1.cursor.toNat → s.ans1.cursor.toNat ≤ 65536 →
    ∃ t x1 u, exec (.bEncode bit p) s = .next t ∧
      2147483648 ≤ t.ans1.r.toNat ∧ t.ans1.r.toNat < 2 ^ 63 ∧
      exec (.bDecode p) t = .next (t.answer .success (.x1Bit x1 bit)) ∧
      exec (.bDecodeAdvance x1) t = .next u ∧ u.ctl.result = .success ∧
      u.ans1.r = s.ans1.r ∧ u.ans1.cursor = s.ans1.cursor

/-- R151: `B_CHUNK_PUT_BIT` in an encode session, in all its cases. -/
def Obligations.ChunkPutBitResult : Prop :=
  ∀ (s : State) (bit : Bool) (p : Byte), s.encoding → s.memoriesCanonical = true →
    (p = 0 ∨ s.ctl.encFinished = true →
      exec (.bChunkPutBit bit p) s = .next (s.lock.failEntry .protocolViolation)) ∧
    (p ≠ 0 → s.ctl.encFinished = false → s.ans1.count.toNat < 16384 →
      ∃ buf, exec (.bChunkPutBit bit p) s =
          .next (({ s.lock with ans1 := { s.ans1 with buf := buf, count := s.ans1.count + 1 } } : State).answer
            .success .nothing) ∧
        ∀ a, Memory.read BitCell.zero buf a =
          if a = s.ans1.count.toNat then ⟨bit, p⟩ else Memory.read BitCell.zero s.ans1.buf a) ∧
    (p ≠ 0 → s.ctl.encFinished = false → s.ans1.count.toNat = 16384 → s.queues.outLo.toNat < 65536 →
      exec (.bChunkPutBit bit p) s = .next (s.lock.answer .needsMoreOutput .nothing)) ∧
    (p ≠ 0 → s.ctl.encFinished = false → s.ans1.count.toNat = 16384 →
      ∀ t, exec .bChunkFlush s = .next t → t.ctl.result = .success →
        exec (.bChunkPutBit bit p) s =
          .next { t with ans1 := { t.ans1 with
            buf := Memory.write BitCell.zero t.ans1.buf 0 ⟨bit, p⟩, count := 1 } })

/-- R152, R153, R94, R85: `B_CHUNK_FLUSH` in an encode session. With bits buffered (each with a `p` in range) and `OUT`
empty it succeeds and leaves in `OUT` one chunk: the length, high byte first, then that many payload bytes, the last
register value and the words of coding the buffered bits last first. The payload stands at the top of `B1MEM`, and the
bytes below it stay. -/
def Obligations.ChunkFlushResult : Prop :=
  ∀ s : State, s.encoding → s.memoriesCanonical = true →
    (s.ans1.count = 0 → exec .bChunkFlush s = .next (s.lock.answer .success .nothing)) ∧
    (s.ans1.count ≠ 0 → s.queues.outLo.toNat < 65536 →
      exec .bChunkFlush s = .next (s.lock.answer .needsMoreOutput .nothing)) ∧
    (s.ans1.count ≠ 0 → s.ans1.count.toNat ≤ 16384 → s.queues.outLo.toNat = 65536 →
      (∀ i < s.ans1.count.toNat, (Memory.read BitCell.zero s.ans1.buf i).p ≠ 0) →
      let n := s.ans1.count.toNat
      let walk := bitWalk (fun i => Memory.read BitCell.zero s.ans1.buf i) n n
      let payload := beBytes 8 walk.1 ++ walk.2
      ∃ t, exec .bChunkFlush s = .next t ∧
        t = ({ s.lock with
          ans1 := { s.ans1 with r := t.ans1.r, cursor := t.ans1.cursor, mem := t.ans1.mem, count := 0 }
          queues := { s.queues with outMem := t.queues.outMem, outLo := t.queues.outLo } } : State).answer
            .success .nothing ∧
        8 ≤ payload.length ∧ payload.length ≤ 16396 ∧ payload.length % 4 = 0 ∧
        t.queues.popBytes .output 65536 =
          BitVec.ofNat 8 (payload.length / 256) :: BitVec.ofNat 8 payload.length :: payload ∧
        t.ans1.r.toNat = walk.1 ∧ payload.length + t.ans1.cursor.toNat = 65536 ∧
        (∀ i < payload.length, payload[i]? = some (Memory.read 0 t.ans1.mem (t.ans1.cursor.toNat + i))) ∧
        ∀ a, a < t.ans1.cursor.toNat ∨ 65536 ≤ a → Memory.read 0 t.ans1.mem a = Memory.read 0 s.ans1.mem a)

/-- R154, R155: `B_CHUNK_GET_BIT` in a decode session: the checks and the waits of each phase; a good header and a whole
payload are taken and the operation goes on from there; a chunk that is used up goes on to the next header; and a
running chunk gives its bit. -/
def Obligations.ChunkGetBitResult : Prop :=
  ∀ (s : State) (p : Byte), s.decoding → s.memoriesCanonical = true →
    (p = 0 → exec (.bChunkGetBit p) s = .next (s.lock.failEntry .protocolViolation)) ∧
    (p ≠ 0 → s.ans1.phase = .needHdr → s.queues.popAvail .input < 2 →
      exec (.bChunkGetBit p) s = .next (s.lock.answer .needsMoreInput .nothing)) ∧
    (p ≠ 0 → s.ans1.phase = .needHdr → 2 ≤ s.queues.popAvail .input →
      fromBE (s.queues.popBytes .input 2) < 8 ∨ fromBE (s.queues.popBytes .input 2) % 4 ≠ 0 →
        exec (.bChunkGetBit p) s = .next ((s.lock.pop .input 2).failEntry .malformedChunk)) ∧
    (p ≠ 0 → s.ans1.phase = .needPayload → s.queues.popAvail .input < s.ans1.len.toNat →
      exec (.bChunkGetBit p) s = .next (s.lock.answer .needsMoreInput .nothing)) ∧
    (p ≠ 0 → s.ans1.phase = .needHdr → 2 ≤ s.queues.popAvail .input →
      8 ≤ fromBE (s.queues.popBytes .input 2) → fromBE (s.queues.popBytes .input 2) % 4 = 0 →
        exec (.bChunkGetBit p) s =
          exec (.bChunkGetBit p) { s.lock.pop .input 2 with ans1 := { s.ans1 with
            len := BitVec.ofNat 16 (fromBE (s.queues.popBytes .input 2)), phase := .needPayload } }) ∧
    (p ≠ 0 → s.ans1.phase = .needPayload → s.ans1.len.toNat ≤ s.queues.popAvail .input →
      ∃ mem r,
        exec (.bChunkGetBit p) s =
          exec (.bChunkGetBit p) { s.lock.pop .input s.ans1.len.toNat with ans1 := { s.ans1 with
            mem := mem, r := r, cursor := 8, phase := .run } } ∧
        (∀ a, Memory.read 0 mem a =
          ((s.queues.popBytes .input s.ans1.len.toNat)[a]?).getD (Memory.read 0 s.ans1.mem a)) ∧
        ∀ i < 8, BitVec.ofNat 8 (r.toNat / 2 ^ (8 * (7 - i))) = Memory.read 0 mem i) ∧
    (p ≠ 0 → s.ans1.phase = .run → s.ans1.cursor.toNat = s.ans1.len.toNat → s.ans1.r = 0x80000000 →
      exec (.bChunkGetBit p) s =
        exec (.bChunkGetBit p) { s.lock with ans1 := { s.ans1 with phase := .needHdr } }) ∧
    (p ≠ 0 → s.ans1.phase = .run → ¬(s.ans1.cursor.toNat = s.ans1.len.toNat ∧ s.ans1.r = 0x80000000) →
      let r := s.ans1.r.toNat
      let bit := decide (p.toNat ≤ r % 256)
      let x1 := if bit then (256 - p.toNat) * (r / 256) + r % 256 - p.toNat else p.toNat * (r / 256) + r % 256
      (2147483648 ≤ x1 →
        exec (.bChunkGetBit p) s =
          .next (({ s.lock with ans1 := { s.ans1 with r := BitVec.ofNat 64 x1 } } : State).answer .success
            (.bit bit))) ∧
      (x1 < 2147483648 → s.ans1.len.toNat < s.ans1.cursor.toNat + 4 →
        exec (.bChunkGetBit p) s = .next (s.lock.failEntry .malformedChunk)) ∧
      (x1 < 2147483648 → s.ans1.cursor.toNat + 4 ≤ s.ans1.len.toNat →
        ∃ r' : BitVec 64, r'.toNat / 2 ^ 32 = x1 ∧
          (∀ i < 4, BitVec.ofNat 8 (r'.toNat / 2 ^ (8 * (3 - i))) =
            Memory.read 0 s.ans1.mem (s.ans1.cursor.toNat + i)) ∧
          exec (.bChunkGetBit p) s =
            .next (({ s.lock with ans1 := { s.ans1 with r := r', cursor := s.ans1.cursor + 4 } } : State).answer
              .success (.bit bit))))

/-! ### ANS2 -/

/-- R171: `N_ENC_PUT` in an encode session, in all its cases. -/
def Obligations.SymbolPutResult : Prop :=
  ∀ (s : State) (start freq : BitVec 16), s.encoding → s.memoriesCanonical = true →
    (s.ctl.encFinished = true →
      exec (.nEncPut start freq) s = .next (s.lock.failEntry .protocolViolation)) ∧
    (s.ctl.encFinished = false → freq = 0 →
      exec (.nEncPut start freq) s = .next (s.lock.failEntry .zeroFrequency)) ∧
    (s.ctl.encFinished = false → freq ≠ 0 → 32768 < start.toNat + freq.toNat →
      exec (.nEncPut start freq) s = .next (s.lock.failEntry .protocolViolation)) ∧
    (s.ctl.encFinished = false → freq ≠ 0 → start.toNat + freq.toNat ≤ 32768 →
      (s.ans2.symCount.toNat < 16384 →
        ∃ buf, exec (.nEncPut start freq) s =
            .next (({ s.lock with ans2 := { s.ans2 with
              symbuf := buf, symCount := s.ans2.symCount + 1 } } : State).answer .success .nothing) ∧
          ∀ a, Memory.read SymCell.zero buf a =
            if a = s.ans2.symCount.toNat then ⟨start, freq⟩ else Memory.read SymCell.zero s.ans2.symbuf a) ∧
      (s.ans2.symCount.toNat = 16384 → s.queues.outLo.toNat < 65536 →
        exec (.nEncPut start freq) s = .next (s.lock.answer .needsMoreOutput .nothing)) ∧
      (s.ans2.symCount.toNat = 16384 →
        ∀ t, exec .nFlushChunk s = .next t → t.ctl.result = .success →
          exec (.nEncPut start freq) s =
            .next { t with ans2 := { t.ans2 with
              symbuf := Memory.write SymCell.zero t.ans2.symbuf 0 ⟨start, freq⟩, symCount := 1 } }))

/-- R172, R173, R174, R95: `N_FLUSH_CHUNK` in an encode session. With legal symbols buffered and `OUT` empty it succeeds
and leaves in `OUT` one batch: the two states, low byte first, then the words, all as coding the buffered symbols last
first leaves them; a batch below 16384 symbols finishes the encoder. -/
def Obligations.SymbolFlushResult : Prop :=
  ∀ s : State, s.encoding → s.memoriesCanonical = true →
    (s.ans2.symCount = 0 → exec .nFlushChunk s = .next (s.lock.answer .success .nothing)) ∧
    (s.ans2.symCount ≠ 0 → s.queues.outLo.toNat < 65536 →
      exec .nFlushChunk s = .next (s.lock.answer .needsMoreOutput .nothing)) ∧
    (s.ans2.symCount ≠ 0 → s.ans2.symCount.toNat ≤ 16384 → s.queues.outLo.toNat = 65536 →
      (∀ i < s.ans2.symCount.toNat,
        (Memory.read SymCell.zero s.ans2.symbuf i).freq ≠ 0 ∧
        (Memory.read SymCell.zero s.ans2.symbuf i).start.toNat +
          (Memory.read SymCell.zero s.ans2.symbuf i).freq.toNat ≤ 32768) →
      let n := s.ans2.symCount.toNat
      let walk := symWalk (fun i => Memory.read SymCell.zero s.ans2.symbuf i) n n
      let words := walk.2.2
      ∃ t, exec .nFlushChunk s = .next t ∧
        t = ({ s.lock with
          ctl := { s.lock.ctl with
            encFinished := s.ctl.encFinished || decide (s.ans2.symCount.toNat < 16384) }
          ans2 := { s.ans2 with stateA := t.ans2.stateA, stateB := t.ans2.stateB, symCount := 0 }
          queues := { s.queues with outMem := t.queues.outMem, outLo := t.queues.outLo } } : State).answer
            .success .nothing ∧
        t.ans2.stateA.toNat = walk.1 ∧ t.ans2.stateB.toNat = walk.2.1 ∧
        2147483648 ≤ t.ans2.stateA.toNat ∧ t.ans2.stateA.toNat < 2 ^ 63 ∧
        2147483648 ≤ t.ans2.stateB.toNat ∧ t.ans2.stateB.toNat < 2 ^ 63 ∧
        words.length % 4 = 0 ∧ words.length ≤ 65520 ∧
        t.queues.popBytes .output 65536 =
          leBytes 8 t.ans2.stateA.toNat ++ leBytes 8 t.ans2.stateB.toNat ++ words)

/-- R178, R179: `N_DEC_FILL` and `N_DEC_GET_OFFSET` in a decode session. With enough bytes in `IN` they take exactly
the bytes needed and succeed; with too few they take all there are and wait; either way the registers hold what the bytes
taken make of them, from the start of a load or part-way. A whole state block is loaded low byte first. A load that
waited and is given more bytes ends as one that had them from the start. -/
def Obligations.DecoderFillResult : Prop :=
  ∀ s : State, s.decoding → s.queues.inRd.toNat ≤ 65536 → s.queues.inWr.toNat ≤ 65536 →
    s.ans2.bootNeed.toNat ≤ 16 → s.ans2.pullNeed.toNat ≤ 4 →
    let need := s.ans2.bootNeed.toNat + s.ans2.pullNeed.toNat
    let filled : State :=
      { s.lock with
        ans2 := s.ans2.taking (s.queues.popBytes .input need)
        queues := s.queues.pop .input need }
    (need = 0 →
      exec .nDecFill s = .next (s.lock.answer .success .nothing) ∧
      exec .nDecGetOffset s =
        .next (s.lock.answer .success (.offset (BitVec.ofNat 16 (s.ans2.stateA.toNat % 32768))))) ∧
    (need ≤ s.queues.popAvail .input →
      ∃ t, exec .nDecFill s = .next t ∧ t = filled.answer .success .nothing ∧
        t.ans2.bootNeed = 0 ∧ t.ans2.pullNeed = 0 ∧
        exec .nDecGetOffset s =
          .next (t.answer .success (.offset (BitVec.ofNat 16 (t.ans2.stateA.toNat % 32768)))) ∧
        (s.ans2.bootNeed = 16 → s.ans2.pullNeed = 0 → s.ans2.stateA = 0 → s.ans2.stateB = 0 →
          t.ans2.stateA.toNat = fromLE ((s.queues.popBytes .input 16).take 8) ∧
          t.ans2.stateB.toNat = fromLE ((s.queues.popBytes .input 16).drop 8)) ∧
        (s.ans2.bootNeed = 0 → s.ans2.pullNeed = 4 → s.ans2.pullAcc = 0 → s.ans2.stateB.toNat < 2147483648 →
          t.ans2.stateA = s.ans2.stateA ∧ t.ans2.pullAcc = 0 ∧
          t.ans2.stateB.toNat = s.ans2.stateB.toNat * 2 ^ 32 + fromLE (s.queues.popBytes .input 4))) ∧
    (s.queues.popAvail .input < need →
      ∃ t, exec .nDecFill s = .next t ∧ exec .nDecGetOffset s = .next t ∧
        t = filled.answer .needsMoreInput .nothing ∧ t.queues.popAvail .input = 0 ∧
        t.ans2.bootNeed.toNat + t.ans2.pullNeed.toNat + s.queues.popAvail .input = need ∧
        ∀ src : List Byte, src.length ≤ s.queues.pushAvail .input →
          ∃ u w, exec (.bqPushData .input src) t = .next u ∧ exec (.bqPushData .input src) s = .next w ∧
            exec .nDecFill u = exec .nDecFill w)

/-- R180: `N_DEC_ADVANCE_SYM` in a decode session, in all its cases. -/
def Obligations.SymbolAdvanceResult : Prop :=
  ∀ (s : State) (start freq : BitVec 16), s.decoding →
    let off := s.ans2.stateA.toNat % 32768
    let x := freq.toNat * (s.ans2.stateA.toNat / 32768) + off - start.toNat
    (s.ans2.bootNeed ≠ 0 ∨ s.ans2.pullNeed ≠ 0 →
      exec (.nDecAdvanceSym start freq) s = .next (s.lock.failEntry .protocolViolation)) ∧
    (s.ans2.bootNeed = 0 → s.ans2.pullNeed = 0 →
      (freq = 0 → exec (.nDecAdvanceSym start freq) s = .next (s.lock.failEntry .zeroFrequency)) ∧
      (freq ≠ 0 → off < start.toNat ∨ start.toNat + freq.toNat ≤ off ∨ 32768 < start.toNat + freq.toNat →
        exec (.nDecAdvanceSym start freq) s = .next (s.lock.failEntry .protocolViolation)) ∧
      (freq ≠ 0 → start.toNat ≤ off → off < start.toNat + freq.toNat → start.toNat + freq.toNat ≤ 32768 →
        (s.ans2.symCount.toNat + 1 = 16384 →
          exec (.nDecAdvanceSym start freq) s =
            .next (({ s.lock with ans2 := { s.ans2 with
              symCount := 0, stateA := 0, stateB := 0, bootNeed := 16, pullNeed := 0 } } : State).answer
                .success .nothing)) ∧
        (s.ans2.symCount.toNat + 1 ≠ 16384 →
          exec (.nDecAdvanceSym start freq) s =
            .next (({ s.lock with ans2 := { s.ans2 with
              symCount := s.ans2.symCount + 1, stateA := s.ans2.stateB, stateB := BitVec.ofNat 64 x,
              pullNeed := if x < 2147483648 then 4 else 0 } } : State).answer .success .nothing))))

/-- R183, R184: `N_PUT_BIT` and `N_GET_BIT` widen `p` to the 15-bit scale and code the bit as a symbol. `N_GET_BIT` takes
the bytes needed first (R179): where `N_DEC_FILL` succeeds it does what it does after that, and where `N_DEC_FILL` waits
it answers as that does. -/
def Obligations.BitsAsSymbols : Prop :=
  ∀ (s : State) (bit : Bool) (p : Byte),
    let start : BitVec 16 := if bit then BitVec.ofNat 16 (p.toNat * 128) else 0
    let freq : BitVec 16 := BitVec.ofNat 16 ((if bit then 256 - p.toNat else p.toNat) * 128)
    (s.encoding →
      (p = 0 → exec (.nPutBit bit p) s = .next (s.lock.failEntry .protocolViolation)) ∧
      (p ≠ 0 → exec (.nPutBit bit p) s = exec (.nEncPut start freq) s) ∧
      (p ≠ 0 → s.ctl.encFinished = false → s.ans2.symCount.toNat < 16384 →
        exec (.nPutBit bit p) s =
          .next (({ s.lock with ans2 := { s.ans2 with
            symbuf := Memory.write SymCell.zero s.ans2.symbuf s.ans2.symCount.toNat ⟨start, freq⟩,
            symCount := s.ans2.symCount + 1 } } : State).answer .success .nothing))) ∧
    (s.decoding →
      (p = 0 → exec (.nGetBit p) s = .next (s.lock.failEntry .protocolViolation)) ∧
      (p ≠ 0 → s.ans2.bootNeed = 0 → s.ans2.pullNeed = 0 →
        (bit = true ↔ p.toNat * 128 ≤ s.ans2.stateA.toNat % 32768) →
          ∃ t, exec (.nDecAdvanceSym start freq) s = .next t ∧ t.ctl.result = .success ∧
            exec (.nGetBit p) s = .next (t.answer .success (.bit bit))) ∧
      (p ≠ 0 → s.ans2.bootNeed ≠ 0 ∨ s.ans2.pullNeed ≠ 0 → s.queues.popAvail .input = 0 →
        exec (.nGetBit p) s = .next (s.lock.answer .needsMoreInput .nothing)) ∧
      (p ≠ 0 → s.ans2.bootNeed ≠ 0 ∨ s.ans2.pullNeed ≠ 0 →
        ∃ t, exec .nDecFill s = .next t ∧
          ((t.ctl.result = .success ∧ t.ans2.bootNeed = 0 ∧ t.ans2.pullNeed = 0 ∧
              exec (.nGetBit p) s = exec (.nGetBit p) t) ∨
            (t.ctl.result = .needsMoreInput ∧ exec (.nGetBit p) s = .next t))))

/-- R181, R172, R180, R174: the decoder's step inverts the encoder's. From `x` in `[2^31, 2^63)` the encoder keeps
its low word back (`w` pushed) or not, and reaches `x1` in the same range; the offset of `x1` lies in the symbol's
interval, and the decoder's `x` is what the encoder had after the push test, below `2^31` exactly when it pushed. -/
def Obligations.SymbolRoundTrip : Prop :=
  ∀ x start freq : Nat, 2147483648 ≤ x → x < 2 ^ 63 → 1 ≤ freq → start + freq ≤ 32768 →
    let kept := if rescaleLim freq ≤ x then x / 2 ^ 32 else x
    let x1 := symUpdate start freq kept
    2147483648 ≤ x1 ∧ x1 < 2 ^ 63 ∧ start ≤ x1 % 32768 ∧ x1 % 32768 < start + freq ∧
      symX start freq x1 = kept ∧ (rescaleLim freq ≤ x ↔ kept < 2147483648)

/-! ### The probability model -/

/-- R203 to R206, R218, R219, R221, R222: the operations that read one cell return what the rules compute and change
nothing; R90: an address above 41887 fails. In a cell of total 0 the scaled counts but the last are free (log 15). -/
def Obligations.CellReads : Prop :=
  ∀ (s : State) (a : BitVec 16) (sym : Nibble) (offset : BitVec 16), s.ctl.failed = false →
    (∀ x, s.cell? a = some x →
      exec (.pCdf a sym) s = .next (s.lock.answer .success (.value (BitVec.ofNat 16 (cdf x sym.toNat)))) ∧
      exec (.pPdf a sym) s =
        .next (s.lock.answer .success (.value (BitVec.ofNat 16
          (if sym = 0 then cdf x 0 else cdf x sym.toNat - cdf x (sym.toNat - 1))))) ∧
      exec (.pMax a) s = .next (s.lock.answer .success (.value (BitVec.ofNat 16 (cdf x 15)))) ∧
      exec (.pLogMax a) s = .next (s.lock.answer .success (.logMax false 0)) ∧
      exec (.pRead a) s = .next (s.lock.answer .success (.cell x)) ∧
      (∃ ok : Bool, exec (.pValid a) s = .next (s.lock.answer .success (.ok ok)) ∧
        (ok = true ↔ 0 < cdf x 0 ∧ (∀ i, 1 ≤ i → i ≤ 15 → cdf x (i - 1) < cdf x i) ∧ cdf x 15 ≤ 32767)) ∧
      (∃ freq, exec (.pSymToStartFreq a sym) s =
          .next (s.lock.answer .success (.startFreq (BitVec.ofNat 16 (scaledBelow x sym.toNat + 1)) freq)) ∧
        (scaledBelow x sym.toNat < scaled x sym.toNat →
          freq = BitVec.ofNat 16 (scaled x sym.toNat - scaledBelow x sym.toNat - 1))) ∧
      (32767 < offset.toNat →
        exec (.pOffsetToSym a offset) s = .next (s.lock.failEntry .protocolViolation)) ∧
      (offset.toNat ≤ 32767 →
        ∃ v : Nibble, offset.toNat < scaled x v.toNat ∧ (∀ j < v.toNat, scaled x j ≤ offset.toNat) ∧
          exec (.pOffsetToSym a offset) s =
            .next (s.lock.answer .success (.symStartFreq v (BitVec.ofNat 16 (scaledBelow x v.toNat + 1))
              (BitVec.ofNat 16 (scaled x v.toNat - scaledBelow x v.toNat - 1))))) ∧
      scaled x 15 = 32768 ∧ (cdf x 15 ≠ 0 → ∀ i, scaled x i = cdf x i * 32768 / cdf x 15)) ∧
    (s.cell? a = none ↔ 41887 < a.toNat) ∧
    (41887 < a.toNat →
      ∀ i ∈ [Instr.pCdf a sym, .pPdf a sym, .pMax a, .pLogMax a, .pRead a, .pValid a, .pSymToStartFreq a sym,
          .pOffsetToSym a offset],
        exec i s = .next (s.lock.failEntry .protocolViolation))

/-- R210, R209, R203: `P_BLEND` on a valid cell: every bucket from `sym` on rises by the increment, then the decay
where the total has reached 32351; no other cell and nothing else changes. -/
def Obligations.BlendWritesCell : Prop :=
  ∀ (s : State) (a : BitVec 16) (sym : Nibble) (speed : BitVec 3) (x : Cdf16), s.ctl.failed = false →
    s.memoriesCanonical = true → s.cell? a = some x → validCell x = true →
    let inc := ([2, 4, 16, 32, 48, 96, 128, 384] : List Nat)[speed.toNat]!
    let up := fun i => cdf x i + if sym.toNat ≤ i then inc else 0
    let biased := fun i => up i + 2 * (i + 1)
    ∃ t y, exec (.pBlend a sym speed) s = .next t ∧ t.cell? a = some y ∧
      (∀ i < 16, cdf y i = if up 15 < 32351 then up i else biased i - biased i / 4) ∧
      (∀ b, b ≠ a → t.cell? b = s.cell? b) ∧
      t = ({ s.lock with model := { s.model with priors := t.model.priors, mix := t.model.mix } } : State).answer
        .success .nothing

/-- R215, R223: `P_AVERAGE` of two valid cells writes `MIX` and nothing else; `P_WRITE` writes a valid cell and
refuses any other, leaving the cell as it was; a bad address or weight fails. -/
def Obligations.AverageAndWriteResult : Prop :=
  ∀ s : State, s.ctl.failed = false → s.memoriesCanonical = true →
    (∀ (a b w : BitVec 16) (x y : Cdf16), s.cell? a = some x → s.cell? b = some y →
      (32768 < w.toNat → exec (.pAverage a b w) s = .next (s.lock.failEntry .protocolViolation)) ∧
      (w.toNat ≤ 32768 → validCell x = true → validCell y = true →
        ∃ mix, exec (.pAverage a b w) s =
            .next (({ s.lock with model := { s.model with mix := mix } } : State).answer .success .nothing) ∧
          ∀ i < 16, cdf mix i =
            ((cdf x i * w.toNat * cdf y 15 + cdf y i * (32768 - w.toNat) * cdf x 15) / 32768) /
              2 ^ bitlen (min (cdf x 15) (cdf y 15)))) ∧
    (∀ (a : BitVec 16) (x c : Cdf16), s.cell? a = some x →
      (validCell c = false → exec (.pWrite a c) s = .next (s.lock.failEntry .protocolViolation)) ∧
      (validCell c = true →
        ∃ t, exec (.pWrite a c) s = .next t ∧ t.cell? a = some c ∧ (∀ b, b ≠ a → t.cell? b = s.cell? b) ∧
          t = ({ s.lock with model := { s.model with
            priors := t.model.priors, mix := t.model.mix } } : State).answer .success .nothing)) ∧
    ∀ (a b w : BitVec 16) (sym : Nibble) (speed : BitVec 3) (c : Cdf16), 41887 < a.toNat →
      ∀ i ∈ [Instr.pAverage a b w, .pAverage b a w, .pWrite a c, .pBlend a sym speed],
        exec i s = .next (s.lock.failEntry .protocolViolation)

/-- R226, R227, R228: the three CDF2 operations on a valid cell. -/
def Obligations.Cdf2Operations : Prop :=
  ∀ (s : State) (a2 : Nibble) (bit : Bool) (speed : BitVec 3) (offset : BitVec 16), s.ctl.failed = false →
    s.memoriesCanonical = true → validCdf2 (s.cdf2 a2) = true →
    let f := (s.cdf2 a2)[0].toNat
    let n := (s.cdf2 a2)[1].toNat
    let inc := ([2, 4, 16, 32, 48, 96, 128, 384] : List Nat)[speed.toNat]!
    let f' := if bit then f else f + inc
    let n' := n + inc
    let split := f * 32768 / n
    (∃ t, exec (.p2Blend a2 bit speed) s = .next t ∧
      (t.cdf2 a2)[0].toNat = (if n' < 32351 then f' else (f' + 2) - (f' + 2) / 4) ∧
      (t.cdf2 a2)[1].toNat = (if n' < 32351 then n' else (n' + 4) - (n' + 4) / 4) ∧
      (∀ b2, b2 ≠ a2 → t.cdf2 b2 = s.cdf2 b2) ∧
      t = ({ s.lock with model := { s.model with cdf2s := t.model.cdf2s } } : State).answer
        .success .nothing) ∧
    exec (.p2Prob a2) s =
      .next (s.lock.answer .success (.prob (BitVec.ofNat 8 (max 1 (min 255 (f * 256 / n)))))) ∧
    (32767 < offset.toNat →
      exec (.p2OffsetToSym a2 offset) s = .next (s.lock.failEntry .protocolViolation)) ∧
    (offset.toNat ≤ 32767 → offset.toNat < split →
      exec (.p2OffsetToSym a2 offset) s =
        .next (s.lock.answer .success (.bitStartFreq false 1 (BitVec.ofNat 16 (split - 1))))) ∧
    (offset.toNat ≤ 32767 → split ≤ offset.toNat →
      exec (.p2OffsetToSym a2 offset) s =
        .next (s.lock.answer .success
          (.bitStartFreq true (BitVec.ofNat 16 (split + 1)) (BitVec.ofNat 16 (32768 - split - 1)))))

/-- R211: a blend keeps every `pdf` at least 4 and the total at most 32350, and such a cell is valid. R216: the average
of two cells whose every `pdf` is at least 4 is valid, has every `pdf` at least 2, and a total between half the larger
total and the larger total. -/
def Obligations.BlendAndAverageBounds : Prop :=
  (∀ (x : Cdf16) (sym : Nibble) (speed : BitVec 3), wideCell x →
     wideCell (blend x sym.toNat speed) ∧ validCell (blend x sym.toNat speed) = true) ∧
  ∀ (x y : Cdf16) (w : Nat), validCell x = true → validCell y = true → (∀ i < 16, 4 ≤ pdf x i) →
    (∀ i < 16, 4 ≤ pdf y i) → w ≤ 32768 →
    let m := average x y w
    validCell m = true ∧ (∀ i < 16, 2 ≤ pdf m i) ∧
      cdf m 15 = cdf x 15 * cdf y 15 / 2 ^ bitlen (min (cdf x 15) (cdf y 15)) ∧
      max (cdf x 15) (cdf y 15) / 2 ≤ cdf m 15 ∧ cdf m 15 ≤ max (cdf x 15) (cdf y 15)

/-- R217, R218, R219: in a valid cell whose every `pdf` is at least 2, every symbol has a frequency of at least 1, its
interval lies in the scale, and every offset in it is looked up as that symbol. -/
def Obligations.IntervalOwnsOffsets : Prop :=
  ∀ (x : Cdf16) (sym : Nibble), validCell x = true → (∀ i < 16, 2 ≤ pdf x i) →
    let start := (symStart x sym.toNat).toNat
    let freq := (symFreq x sym.toNat).toNat
    start = scaledBelow x sym.toNat + 1 ∧ 1 ≤ freq ∧ start + freq = scaled x sym.toNat ∧
      scaled x 15 = 32768 ∧ start + freq ≤ 32768 ∧
      ∀ offset, start ≤ offset → offset < start + freq → offsetSym x offset = sym.toNat

/-! ### The nibble protocol -/

/-- R241, R242: a protocol bit is the operation of the configured engine; and it succeeds where that has room or
bytes. -/
def Obligations.ProtocolBits : Prop :=
  ∀ (s : State) (bit : Bool) (p : Byte),
    exec (.tPutBit bit p) s = exec (if s.engineAns2 then .nPutBit bit p else .bChunkPutBit bit p) s ∧
    exec (.tGetBit p) s = exec (if s.engineAns2 then .nGetBit p else .bChunkGetBit p) s ∧
    (s.encoding → p ≠ 0 → s.ctl.encFinished = false →
      (if s.engineAns2 then s.ans2.symCount.toNat < 16384 else s.ans1.count.toNat < 16384) →
        ∃ t, exec (.tPutBit bit p) s = .next t ∧ t.ctl.result = .success ∧
          (if s.engineAns2 then t.ans2.symCount = s.ans2.symCount + 1 else t.ans1.count = s.ans1.count + 1)) ∧
    (s.decoding → p ≠ 0 → s.engineAns2 = true → s.ans2.bootNeed = 0 → s.ans2.pullNeed = 0 →
      ∃ t b, exec (.tGetBit p) s = .next t ∧ t.port.response = ⟨.success, .bit b⟩)

/-- R245, R246, R249 in `DIRECT16` mode: a nibble goes to the engine as the symbol of its interval; a nibble comes back
as the symbol that owns the offset, and an offset no symbol owns fails; the cell is not changed. A cell of total 0 fails
before the division by it (R12; log 15). `T_GET_NIBBLE` takes the bytes needed first (R179): where `N_DEC_FILL` succeeds it
does what it does after that, and where `N_DEC_FILL` waits it answers as that does. -/
def Obligations.DirectNibbles : Prop :=
  ∀ (s : State) (a : BitVec 16) (n : Nibble) (x : Cdf16), s.direct16 = true → s.cell? a = some x →
    (s.encoding → cdf x 15 ≠ 0 →
      exec (.tPutNibble a n) s = exec (.nEncPut (symStart x n.toNat) (symFreq x n.toNat)) s) ∧
    (s.encoding → cdf x 15 = 0 → exec (.tPutNibble a n) s = .next (s.lock.failEntry .zeroFrequency)) ∧
    (s.decoding → s.ans2.bootNeed = 0 → s.ans2.pullNeed = 0 → cdf x 15 = 0 →
      exec (.tGetNibble a) s = .next (s.lock.failEntry .zeroFrequency)) ∧
    (s.encoding → s.ctl.encFinished = false → s.ans2.symCount.toNat < 16384 → validCell x = true →
      (∀ i < 16, 2 ≤ pdf x i) →
        exec (.tPutNibble a n) s =
          .next (({ s.lock with ans2 := { s.ans2 with
            symbuf := Memory.write SymCell.zero s.ans2.symbuf s.ans2.symCount.toNat
              ⟨symStart x n.toNat, symFreq x n.toNat⟩
            symCount := s.ans2.symCount + 1 } } : State).answer .success .nothing)) ∧
    (s.decoding → s.ans2.bootNeed = 0 → s.ans2.pullNeed = 0 → validCell x = true → (∀ i < 16, 2 ≤ pdf x i) →
      ((symStart x n.toNat).toNat ≤ s.ans2.stateA.toNat % 32768 →
        s.ans2.stateA.toNat % 32768 < (symStart x n.toNat).toNat + (symFreq x n.toNat).toNat →
          ∃ t, exec (.nDecAdvanceSym (symStart x n.toNat) (symFreq x n.toNat)) s = .next t ∧
            t.ctl.result = .success ∧
            exec (.tGetNibble a) s = .next (t.answer .success (.nibble n))) ∧
      (s.ans2.stateA.toNat % 32768 = scaledBelow x n.toNat →
        exec (.tGetNibble a) s = .next (s.lock.failEntry .invalidOffset))) ∧
    (s.decoding → s.ans2.bootNeed ≠ 0 ∨ s.ans2.pullNeed ≠ 0 → s.queues.popAvail .input = 0 →
      exec (.tGetNibble a) s = .next (s.lock.answer .needsMoreInput .nothing)) ∧
    (s.decoding → s.ans2.bootNeed ≠ 0 ∨ s.ans2.pullNeed ≠ 0 →
      ∃ t, exec .nDecFill s = .next t ∧
        ((t.ctl.result = .success ∧ t.ans2.bootNeed = 0 ∧ t.ans2.pullNeed = 0 ∧
            exec (.tGetNibble a) s = exec (.tGetNibble a) t) ∨
          (t.ctl.result = .needsMoreInput ∧ exec (.tGetNibble a) s = .next t)))

/-- R240, R243, R244, R245, R246 in `BITTREE` mode. On either engine a nibble is put as four bits, most significant
first, each with the probability that the symbol lies at or below the cut of its surviving range. Each level of a put or
a get, from the start or resumed from the tree registers, is one bit operation of the engine: where it suspends or fails
the nibble operation ends so and the registers keep their values; where it gives its bit the registers move to the
surviving half and the nibble operation goes on, or ends with the nibble. The level clauses also cover a range with
`mid = lo` or `hi <= mid`, for which R240 gives no probability: that the model uses its formula there is the model's choice
(DEDUCED, log 4). An empty range fails before the division by its width (R12; log 15). -/
def Obligations.BitTreeNibbles : Prop :=
  (∀ (s : State) (a : BitVec 16) (n : Nibble) (x : Cdf16), s.encoding → s.memoriesCanonical = true →
     s.direct16 = false → s.engineAns2 = false → s.cell? a = some x → validCell x = true → s.bt.active = false →
     s.ctl.encFinished = false → s.ans1.count.toNat + 4 ≤ 16384 →
     ∃ t, exec (.tPutNibble a n) s = .next t ∧
       t = ({ s.lock with bt := t.bt, ans1 := { s.ans1 with
         buf := t.ans1.buf, count := s.ans1.count + 4 } } : State).answer .success .nothing ∧
       t.bt.active = false ∧
       (∀ k < 4,
         let base := n.toNat / 2 ^ (k + 1) * 2 ^ (k + 1)
         let lo := if base = 0 then 0 else cdf x (base - 1)
         let hi := cdf x (base + 2 ^ (k + 1) - 1)
         let mid := cdf x (base + 2 ^ k - 1)
         Memory.read BitCell.zero t.ans1.buf (s.ans1.count.toNat + (3 - k)) =
           ⟨n.getLsbD k, BitVec.ofNat 8 (max 1 (min 255 ((mid - lo) * 256 / (hi - lo))))⟩) ∧
       ∀ i, i < s.ans1.count.toNat ∨ s.ans1.count.toNat + 4 ≤ i →
         Memory.read BitCell.zero t.ans1.buf i = Memory.read BitCell.zero s.ans1.buf i) ∧
  (∀ (s : State) (a : BitVec 16) (n : Nibble) (x : Cdf16), s.encoding → s.memoriesCanonical = true →
     s.direct16 = false → s.engineAns2 = true → s.cell? a = some x → validCell x = true → s.bt.active = false →
     s.ctl.encFinished = false → s.ans2.symCount.toNat + 4 ≤ 16384 →
     ∃ t, exec (.tPutNibble a n) s = .next t ∧
       t = ({ s.lock with bt := t.bt, ans2 := { s.ans2 with
         symbuf := t.ans2.symbuf, symCount := s.ans2.symCount + 4 } } : State).answer .success .nothing ∧
       t.bt.active = false ∧
       (∀ k < 4,
         let base := n.toNat / 2 ^ (k + 1) * 2 ^ (k + 1)
         let lo := if base = 0 then 0 else cdf x (base - 1)
         let hi := cdf x (base + 2 ^ (k + 1) - 1)
         let mid := cdf x (base + 2 ^ k - 1)
         let p := max 1 (min 255 ((mid - lo) * 256 / (hi - lo)))
         Memory.read SymCell.zero t.ans2.symbuf (s.ans2.symCount.toNat + (3 - k)) =
           if n.getLsbD k then ⟨BitVec.ofNat 16 (p * 128), BitVec.ofNat 16 ((256 - p) * 128)⟩
           else ⟨0, BitVec.ofNat 16 (p * 128)⟩) ∧
       ∀ i, i < s.ans2.symCount.toNat ∨ s.ans2.symCount.toNat + 4 ≤ i →
         Memory.read SymCell.zero t.ans2.symbuf i = Memory.read SymCell.zero s.ans2.symbuf i) ∧
  (∀ (s : State) (a : BitVec 16) (n : Nibble) (x : Cdf16), s.encoding → s.direct16 = false →
     s.cell? a = some x →
     let b := s.bt.begun x
     let k := b.k.toNat
     (b.hi = b.lo → exec (.tPutNibble a n) s = .next (({ s.lock with bt := b } : State).failEntry .zeroFrequency)) ∧
     (b.lo.toNat < b.hi.toNat → b.lo.toNat ≤ b.cut x →
       ∃ u, exec (.tPutBit (n.getLsbD k) (b.share x)) { s with bt := b } = .next u ∧
         (u.ctl.result ≠ .success → exec (.tPutNibble a n) s = .next u) ∧
         (u.ctl.result = .success → 0 < k →
           exec (.tPutNibble a n) s = exec (.tPutNibble a n) { u with bt := b.narrowed x (n.getLsbD k) }) ∧
         (u.ctl.result = .success → k = 0 →
           exec (.tPutNibble a n) s =
             .next { u with bt := { b.narrowed x (n.getLsbD k) with active := false } }))) ∧
  ∀ (s : State) (a : BitVec 16) (x : Cdf16), s.decoding → s.direct16 = false → s.cell? a = some x →
    let b := s.bt.begun x
    let k := b.k.toNat
    (b.hi = b.lo → exec (.tGetNibble a) s = .next (({ s.lock with bt := b } : State).failEntry .zeroFrequency)) ∧
    (b.lo.toNat < b.hi.toNat → b.lo.toNat ≤ b.cut x →
      ∃ u, exec (.tGetBit (b.share x)) { s with bt := b } = .next u ∧
        (u.ctl.result ≠ .success → exec (.tGetNibble a) s = .next u) ∧
        (u.ctl.result = .success → ∃ bit, u.port.response = ⟨.success, .bit bit⟩ ∧
          (0 < k → exec (.tGetNibble a) s = exec (.tGetNibble a) { u with bt := b.narrowed x bit }) ∧
          (k = 0 →
            exec (.tGetNibble a) s =
              .next (({ u with bt := { b.narrowed x bit with active := false } } : State).answer .success
                (.nibble (b.narrowed x bit).nib)))))

/-! ### Coded nibbles -/

/-- R97, R301: the command-type rows. The eight command types begin a command of that kind; the eight reserved values
fail with `MalformedCommandType`. -/
def Obligations.CommandTypeRows : Prop :=
  ∀ s : State, s.expects = some .cmdType →
    (∀ p ∈ [(Instr.cmdCopy, (1 : Nibble)), (.cmdDict, 2), (.cmdLiteral, 3), (.cmdBlockswitchLiteral, 4),
        (.cmdBlockswitchCommand, 5), (.cmdBlockswitchDistance, 6), (.cmdPredictionMode, 7), (.cmdEof, 15)],
      exec p.1 s = .next { s with
        ctx := { s.ctx with lastCmd := p.2 }
        codec := { top := .inCommand, substate := .begin,
                   cmd := if s.isDecode then Command.blank p.2 else { s.codec.cmd with kind := p.2 } } }) ∧
    ∀ i ∈ [Instr.cmdReserved0, .cmdReserved8, .cmdReserved9, .cmdReserved10, .cmdReserved11, .cmdReserved12,
        .cmdReserved13, .cmdReserved14],
      exec i s = .next (s.failEntry .malformedCommandType)

/-- R99, R264, R282: the Small rows, for each user of the tiered integer. -/
def Obligations.SmallRows : Prop :=
  ∀ (s : State) (u : IntUser), s.expects = some .small → s.codec.substate = u.at .small →
    (∀ p ∈ [(Instr.smallValue0, 0), (.smallValue1, 1), (.smallValue2, 2), (.smallValue3, 3), (.smallValue4, 4),
        (.smallValue5, 5), (.smallValue6, 6), (.smallValue7, 7), (.smallValue8, 8), (.smallValue9, 9)],
      exec p.1 s = .next (intResult u p.2 s)) ∧
    exec .smallFirst s = .next (s.withCodec (u.at .first) s.codec.cmd s.ctx) ∧
    exec .smallGreater s = .next (s.withCodec (u.at .greater) s.codec.cmd s.ctx) ∧
    exec .smallMantissa s = .next (s.withCodec (u.at .mantissaHeader) s.codec.cmd s.ctx) ∧
    (u = .copyCount →
      exec .smallRepeat s =
        .next (s.withCodec .fullyDecoded
          { s.codec.cmd with numBytes := 1, distance := s.ctx.distanceLru[0] }
          { s.ctx with distanceLru := touch s.ctx.distanceLru s.ctx.distanceLru[0] })) ∧
    (u ≠ .copyCount → exec .smallRepeat s = .next (s.failEntry .reservedNibbleCode)) ∧
    exec .smallReserved14 s = .next (s.failEntry .reservedNibbleCode) ∧
    exec .smallReserved15 s = .next (s.failEntry .reservedNibbleCode)

/-- R100, R265, R266: the First and Greater rows in both styles; R101, R267, R288: the mantissa-header rows of the
tiered integers and of the distance. Row `k` of a table is `decodeNibble` of the table and `k`: `FIRST_COPY_k`,
`GREATER_COPY_k`, `FIRST_LIT_k`, `GREATER_LIT_k`, `HEADER_k`. -/
def Obligations.LaterStageRows : Prop :=
  (∀ (s : State) (u : IntUser) (k : Nibble),
     (s.expects = some .firstCopy →
       exec (decodeNibble .firstCopy k) s =
         .next (if k.toNat ≤ 7 then intResult .copyCount (10 + k.toNat) s else s.failEntry .reservedNibbleCode)) ∧
     (s.expects = some .greaterCopy →
       exec (decodeNibble .greaterCopy k) s =
         .next (if k.toNat ≤ 6 then intResult .copyCount (18 + k.toNat) s else s.failEntry .reservedNibbleCode)) ∧
     (s.expects = some .firstLit → s.codec.substate = u.at .first →
       exec (decodeNibble .firstLit k) s =
         .next (if k.toNat ≤ 4 then intResult u (10 + k.toNat) s else s.failEntry .reservedNibbleCode)) ∧
     (s.expects = some .greaterLit → s.codec.substate = u.at .greater →
       exec (decodeNibble .greaterLit k) s =
         .next (if k.toNat ≤ 9 then intResult u (15 + k.toNat) s else s.failEntry .reservedNibbleCode))) ∧
  ∀ (s : State) (u : IntUser) (h : Nibble), s.expects = some .header →
    (7 < h.toNat → exec (decodeNibble .header h) s = .next (s.failEntry .reservedNibbleCode)) ∧
    (h.toNat ≤ 7 → s.codec.substate = .distanceLengthFirst →
      exec (decodeNibble .header h) s =
        .next (s.withCodec (.distanceMantissaNibbles 0 (h + 1) 0) s.codec.cmd s.ctx)) ∧
    (h.toNat ≤ 7 → s.codec.substate = u.at .mantissaHeader →
      exec (decodeNibble .header h) s =
        .next (s.withCodec (u.at (.mantissaNibbles 0 (h + 1) 0)) s.codec.cmd s.ctx))

/-- R102, R286, R287, R290: the distance mnemonic rows `DIST_MNEMONIC_0` to `DIST_MNEMONIC_14` and `DIST_ESCAPE`. -/
def Obligations.DistanceRows : Prop :=
  ∀ s : State, s.expects = some .distMnemonic →
    exec .distEscape s = .next (s.withCodec .distanceLengthFirst s.codec.cmd s.ctx) ∧
    ∀ m : Nibble, m.toNat ≤ 14 →
      let l := fun i => ((s.ctx.distanceLru[i]?.getD 0).toNat : Int)
      let v : Int := ([l 0, l 1, l 2, l 3, l 0 - 1, l 0 + 1, l 0 - 2, l 0 + 2, l 0 - 3, l 0 + 3, l 1 - 1, l 1 + 1,
        l 1 - 2, l 1 + 2, l 1 - 3] : List Int)[m.toNat]!
      (1 ≤ v → v ≤ 4294967295 → ∀ d : BitVec 32, (d.toNat : Int) = v →
        exec (decodeNibble .distMnemonic m) s =
          .next (s.withCodec .fullyDecoded { s.codec.cmd with distance := d }
            { s.ctx with distanceLru := touch s.ctx.distanceLru d })) ∧
      (v < 1 ∨ 4294967295 < v →
        exec (decodeNibble .distMnemonic m) s = .next (s.failEntry .distanceOutOfRange))

/-- R74: `Touch` on an array of any length: the value comes to the front, what stood before its first place moves back by
one and what stood behind it stays; with a new value everything moves back and the last one is dropped. -/
def Obligations.TouchMovesToFront : Prop :=
  ∀ (α : Type) [DecidableEq α] (n : Nat) (lru : Vector α (n + 1)) (v : α),
    (touch lru v)[0] = v ∧
    (∀ j : Fin (n + 1), lru[j] = v → (∀ i : Fin (n + 1), i < j → lru[i] ≠ v) →
      ∀ i : Fin (n + 1), (j < i → (touch lru v)[i] = lru[i]) ∧
        (0 < i → i ≤ j → (touch lru v)[i] = lru[i.val - 1]'(by omega))) ∧
    ((∀ i : Fin (n + 1), lru[i] ≠ v) →
      ∀ i : Fin (n + 1), 0 < i → (touch lru v)[i] = lru[i.val - 1]'(by omega))

/-- R103, R322, R323, R324: the context-map entry rows: `CMAP_LRU_0` to `CMAP_LRU_12` complete the entry with the
cached value, `CMAP_EXPLICIT` goes on to its high nibble, 14 and 15 are reserved. After the last entry of the distance
map the commit takes effect. -/
def Obligations.MapEntryRows : Prop :=
  ∀ (s : State) (mi : MapId) (j : Nat), s.expects = some .cmapEntry →
    s.codec.substate = .mapEntryMnemonic mi j →
    exec .cmapExplicit s = .next (s.withCodec (.mapEntryHigh mi j) s.codec.cmd s.ctx) ∧
    exec .cmapReserved14 s = .next (s.failEntry .reservedNibbleCode) ∧
    exec .cmapReserved15 s = .next (s.failEntry .reservedNibbleCode) ∧
    ∀ (m : Nibble) (hm : m.toNat ≤ 12),
      let e := s.ctx.cmapLru[m.toNat]'(by omega)
      let ctx := { s.ctx with cmapLru := touch s.ctx.cmapLru e }
      let cmd := match mi with
        | .literal => { s.codec.cmd with litMap := s.codec.cmd.litMap.set j e }
        | .distance => { s.codec.cmd with distMap := s.codec.cmd.distMap.set j e }
      (j + 1 < (commandMap s.codec.cmd mi).length →
        exec (decodeNibble .cmapEntry m) s = .next (s.withCodec (.mapEntryMnemonic mi (j + 1)) cmd ctx)) ∧
      ((commandMap s.codec.cmd mi).length ≤ j + 1 → mi = .literal →
        exec (decodeNibble .cmapEntry m) s = .next (s.withCodec (.mapCount .distance .small) cmd ctx)) ∧
      ((commandMap s.codec.cmd mi).length ≤ j + 1 → mi = .distance → s.memoriesCanonical = true →
        ∃ litCmap distCmap,
          exec (decodeNibble .cmapEntry m) s =
            .next (s.withCodec .fullyDecoded cmd { ctx with
              predMode := cmd.pm, speedStride := cmd.speedStride, speedCm := cmd.speedCm,
              litCmap := litCmap, litCmapLen := BitVec.ofNat 15 cmd.litMap.length,
              distCmap := distCmap, distCmapLen := BitVec.ofNat 11 cmd.distMap.length }) ∧
          (∀ a, Memory.read 0 litCmap a = (cmd.litMap[a]?).getD (Memory.read 0 s.ctx.litCmap a)) ∧
          ∀ a, Memory.read 0 distCmap a = (cmd.distMap[a]?).getD (Memory.read 0 s.ctx.distCmap a))

/-- R104, R304, R320: the high-entropy rows `HE_0` to `HE_15`, the prediction-mode rows `PM_0` to `PM_15` and the speed
rows `SPEED_0` to `SPEED_15`. -/
def Obligations.SingleFieldRows : Prop :=
  ∀ (s : State) (v : Nibble),
    (s.expects = some .highEntropy →
      exec (decodeNibble .highEntropy v) s =
        .next (if 1 < v.toNat then s.failEntry .reservedNibbleCode
          else s.withCodec (if s.codec.cmd.len = 0 then .fullyDecoded else .literalNibbleIndex 0)
            { s.codec.cmd with highEntropy := decide (v = 1) } s.ctx)) ∧
    (s.expects = some .predMode →
      exec (decodeNibble .predMode v) s =
        .next (if 3 < v.toNat then s.failEntry .predictionModeOutOfRange
          else s.withCodec .predSpeedStride { s.codec.cmd with pm := BitVec.ofNat 2 v.toNat } s.ctx)) ∧
    (s.expects = some .speed →
      exec (decodeNibble .speed v) s =
        .next (if 7 < v.toNat then s.failEntry .reservedNibbleCode
          else if s.codec.substate = .predSpeedStride then
            s.withCodec .predSpeedCm { s.codec.cmd with speedStride := BitVec.ofNat 3 v.toNat } s.ctx
          else
            s.withCodec (.mapCount .literal .small) { s.codec.cmd with speedCm := BitVec.ofNat 3 v.toNat }
              s.ctx))

/-- What no coded-nibble row changes: the engines, the queues, the model, the nibble-tree and every byte of their
memories, the configuration, the block types, the literal history and the weights; and the context maps with their
lengths, but by the rows that can commit (R324). A row is refused where its table is not read (log 2). -/
def Obligations.RowFrame : Prop :=
  ∀ (t : NibbleTable) (v : Nibble) (s : State),
    (s.expects ≠ some t → exec (decodeNibble t v) s = .refused .nibbleOutOfPlace) ∧
    ∀ s', exec (decodeNibble t v) s = .next s' →
      s'.ans1 = s.ans1 ∧ s'.ans2 = s.ans2 ∧ s'.queues = s.queues ∧ s'.model = s.model ∧ s'.bt = s.bt ∧
      s'.ctl.cfg = s.ctl.cfg ∧ s'.ctl.cfgLocked = s.ctl.cfgLocked ∧ s'.ctl.encFinished = s.ctl.encFinished ∧
      s'.port.requests = s.port.requests ∧
      s'.ctx.btypeLit = s.ctx.btypeLit ∧ s'.ctx.btypeCmd = s.ctx.btypeCmd ∧
      s'.ctx.btypeDist = s.ctx.btypeDist ∧ s'.ctx.hist = s.ctx.hist ∧ s'.ctx.weights = s.ctx.weights ∧
      s'.ctx.eofSeen = s.ctx.eofSeen ∧
      (t ≠ .cmapEntry → t ≠ .small →
        s'.ctx.predMode = s.ctx.predMode ∧ s'.ctx.speedStride = s.ctx.speedStride ∧
        s'.ctx.speedCm = s.ctx.speedCm ∧ s'.ctx.litCmapLen = s.ctx.litCmapLen ∧
        s'.ctx.distCmapLen = s.ctx.distCmapLen ∧ (∀ a, Memory.read 0 s'.ctx.litCmap a = Memory.read 0 s.ctx.litCmap a) ∧
        ∀ a, Memory.read 0 s'.ctx.distCmap a = Memory.read 0 s.ctx.distCmap a)

/-! ### Codec steps -/

/-- R262, R268, R263, R269, R321: a mantissa nibble of a tiered integer, in every mode: what an encoder codes, against
which cell, the blend at `SLOW`, the next stage or the complete integer; no other cell changes. R289, R290: the same of
an explicit distance. R322, R323, R324: the two nibbles of an explicit context-map entry, at `MED`, and the completed
entry. And the nibbles an encoder chooses (R267, R268) put together give the value, with the least number of nibbles. -/
def Obligations.MantissaAndEntryNibbleSteps : Prop :=
  (∀ (s : State) (u : IntUser) (ld lr : BitVec 4) (dsf : BitVec 32) (v : Nibble), s.memoriesCanonical = true →
     s.codec.top = .inCommand → s.codec.substate = u.at (.mantissaNibbles ld lr dsf) → 1 ≤ lr.toNat →
     ld.toNat + lr.toNat ≤ 8 →
     let a := u.cells s + 4 + ld.toNat
     let sh := 4 * (lr.toNat - 1)
     let dsf' := dsf ||| (v.setWidth 32 <<< sh)
     s.codedStep (s.prior a) (BitVec.ofNat 4 ((u.operand s.codec.cmd ^^^ dsf.toNat) / 2 ^ sh)) v (codecStep s) fun b =>
     ∃ coded t, b.blendedAs a 3 v coded ∧ codecStep s = (if t.ctl.failed then .fail t else .ok () t) ∧
       t = if lr = 1 then intResult u dsf'.toNat coded
           else coded.withCodec (u.at (.mantissaNibbles (ld + 1) (lr - 1) dsf')) s.codec.cmd s.ctx) ∧
  (∀ (s : State) (ld lr : BitVec 4) (dsf : BitVec 32) (v : Nibble) (slot : Nat), s.memoriesCanonical = true →
     s.codec.top = .inCommand → s.codec.substate = .distanceMantissaNibbles ld lr dsf → 1 ≤ lr.toNat →
     ld.toNat + lr.toNat ≤ 8 → s.distSlot? = some slot →
     let c := s.codec.cmd
     let a := 7168 + slot * 10 + 2 + ld.toNat
     let sh := 4 * (lr.toNat - 1)
     let dsf' := dsf ||| (v.setWidth 32 <<< sh)
     s.codedStep (s.prior a) (BitVec.ofNat 4 ((c.distance.toNat ^^^ dsf.toNat) / 2 ^ sh)) v (codecStep s) fun b =>
     ∃ coded, b.blendedAs a 3 v coded ∧
       codecStep s =
         if lr ≠ 1 then .ok () (coded.withCodec (.distanceMantissaNibbles (ld + 1) (lr - 1) dsf') c s.ctx)
         else if dsf' = 0 then .fail (coded.failEntry .distanceOutOfRange)
         else .ok () (coded.withCodec .fullyDecoded { c with distance := dsf' }
           { s.ctx with distanceLru := touch s.ctx.distanceLru dsf' })) ∧
  (∀ (s : State) (mi : MapId) (j : Nat) (v : Nibble), s.memoriesCanonical = true → s.codec.top = .inCommand →
     let c := s.codec.cmd
     let e : Byte := ((commandMap c mi)[j]?).getD 0
     let hi := e.toNat / 16
     let first := if mi = .literal then 41851 else 41869
     let stored := fun b : Byte => match mi with
       | .literal => { c with litMap := c.litMap.set j b }
       | .distance => { c with distMap := c.distMap.set j b }
     (s.codec.substate = .mapEntryHigh mi j →
       s.codedStep (s.prior (first + 1)) (BitVec.ofNat 4 hi) v (codecStep s) fun b =>
       ∃ coded, b.blendedAs (first + 1) 4 v coded ∧
         codecStep s = .ok () (coded.withCodec (.mapEntryLow mi j)
           (if s.isDecode then stored (BitVec.ofNat 8 (v.toNat * 16)) else c) s.ctx)) ∧
     (s.codec.substate = .mapEntryLow mi j →
       s.codedStep (s.prior (first + 2 + hi)) (BitVec.ofNat 4 (e.toNat % 16)) v (codecStep s) fun b =>
       ∃ coded t, b.blendedAs (first + 2 + hi) 4 v coded ∧ codecStep s = .ok () t ∧
         coded.entryCompleted mi j (if s.isDecode then BitVec.ofNat 8 (hi * 16 + v.toNat) else e) t)) ∧
  ∀ v : Nat, v < 2 ^ 32 →
    let k := nibbleCount v
    1 ≤ k ∧ k ≤ 8 ∧ v < 16 ^ k ∧ (1 < k → 16 ^ (k - 1) ≤ v) ∧
      (List.range k).foldl
        (fun dsf i => mantissaPut (mantissaWant v (BitVec.ofNat 4 (k - i)) dsf) (BitVec.ofNat 4 (k - i)) dsf) 0 =
          BitVec.ofNat 32 v

/-- R310, R311, R312, R313, R315: a literal nibble, in every mode. A mixed nibble is coded against the average of
the stride cell and the context-map cell, which stands in `MIX`; the weight moves toward the cell that gave the nibble
the higher probability, and both cells are blended; a missing context-map entry fails. A high-entropy nibble is coded
against `UNIFORM`, and no cell and no weight changes. After the low nibble the byte enters `hist`. -/
def Obligations.LiteralNibbleStep : Prop :=
  ∀ (s : State) (idx : BitVec 33) (v : Nibble), s.ctl.failed = false → s.memoriesCanonical = true →
    s.codec.top = .inCommand → s.codec.substate = .literalNibbleIndex idx → idx.toNat < 2 * s.codec.cmd.len.toNat →
    let c := s.codec.cmd
    let j := idx.toNat / 2
    let ni := idx.toNat % 2
    let byte : Byte := (c.data[j]?).getD 0
    let want : Nibble := if ni = 0 then byte.extractLsb' 4 4 else byte.extractLsb' 0 4
    let data :=
      if s.isDecode then
        c.data.set j (if ni = 0 then BitVec.ofNat 8 (16 * v.toNat) else byte ||| BitVec.ofNat 8 v.toNat)
      else c.data
    let done := fun (b : State) (m : Model) (w : Vector (BitVec 16) 32) (hist : Vector Byte 8) =>
      ({ b with model := m } : State).withCodec
        (if idx.toNat + 1 = 2 * c.len.toNat then .fullyDecoded else .literalNibbleIndex (idx + 1))
        { c with data := data } { s.ctx with weights := w, hist := hist }
    let pushed := fun hist : Vector Byte 8 =>
      if ni = 1 then
        hist[0] = (data[j]?).getD 0 ∧ ∀ i : Fin 7, hist[i.val + 1]'(by omega) = s.ctx.hist[i.val]'(by omega)
      else hist = s.ctx.hist
    let h := if ni = 0 then 0 else byte.toNat / 16
    let ctx6 :=
      if s.ctx.predMode = 0 then s.ctx.hist[0].toNat % 64
      else if s.ctx.predMode = 1 then s.ctx.hist[0].toNat / 4
      else (Config.ctx6 s.ctx.predMode s.ctx.hist[0] s.ctx.hist[1]).toNat
    let entry := (s.ctx.btypeLit.toNat * 64) ||| ctx6
    let slot := if s.ctx.litCmapLen = 0 then 0 else (Memory.read 0 s.ctx.litCmap entry).toNat
    let a := 13056 + ((s.ctx.hist[s.strideM1.toNat]'(s.strideM1.isLt)).toNat * 2 + ni) * 16 + h
    let b := 21248 + (slot * 2 + ni) * 16 + h
    let w := ((s.ctx.weights[16 * ni + h]?).getD 0).toNat
    let mix := average (s.prior a) (s.prior b) w
    let fa := pdf (s.prior a) v.toNat * 32768 / cdf (s.prior a) 15
    let fb := pdf (s.prior b) v.toNat * 32768 / cdf (s.prior b) 15
    (c.highEntropy = false → s.ctx.litCmapLen ≠ 0 → s.ctx.litCmapLen.toNat ≤ entry →
      codecStep s = .fail (s.failEntry .contextMapIndexOutOfRange)) ∧
    (c.highEntropy = false → s.ctx.litCmapLen = 0 ∨ entry < s.ctx.litCmapLen.toNat →
      ({ s with model := { s.model with mix := mix } } : State).codedStep mix want v (codecStep s) fun base =>
      ∃ priors weights hist, pushed hist ∧
        codecStep s = .ok () (done base { s.model with priors := priors, mix := mix } weights hist) ∧
        Memory.read defaultCdf priors a = blend (s.prior a) v.toNat s.ctx.speedStride ∧
        Memory.read defaultCdf priors b = blend (s.prior b) v.toNat s.ctx.speedCm ∧
        (∀ d, d ≠ a → d ≠ b → Memory.read defaultCdf priors d = s.prior d) ∧
        ∀ i : Fin 32, weights[i].toNat =
          if i.val = 16 * ni + h then
            if fb < fa then w + (32768 - w) / 16 else if fa < fb then w - w / 16 else w
          else s.ctx.weights[i].toNat) ∧
    (c.highEntropy = true →
      (symStart defaultCdf v.toNat).toNat = 2048 * v.toNat + 1 ∧ (symFreq defaultCdf v.toNat).toNat = 2047 ∧
      s.codedStep defaultCdf want v (codecStep s) fun base =>
      ∃ hist, pushed hist ∧ codecStep s = .ok () (done base s.model s.ctx.weights hist))

/-- R317, R262: the two nibbles of a block switch, in every mode: the cells they are coded against, their blend at
`MED`, and the block type that takes effect after the low nibble. -/
def Obligations.BlockSwitchSteps : Prop :=
  ∀ (s : State) (v : Nibble), s.memoriesCanonical = true → s.codec.top = .inCommand →
    s.codec.cmd.kind ∈ ([4, 5, 6] : List Nibble) →
    let c := s.codec.cmd
    let kix := c.kind.toNat - 4
    let hi := c.blockType.toNat / 16
    let done := fun (b : State) (a : Nat) (x : Substate) (c : Command) (ctx : Context) =>
      ∃ coded, b.blendedAs a 4 v coded ∧ codecStep s = .ok () (coded.withCodec x c ctx)
    (s.codec.substate = .blockTypeHigh →
      let a := 41728 + kix * 2 * 16
      s.codedStep (s.prior a) (BitVec.ofNat 4 hi) v (codecStep s) fun base =>
        done base a .blockTypeLow
          { c with blockType := if s.isDecode then BitVec.ofNat 8 (v.toNat * 16) else c.blockType } s.ctx) ∧
    (s.codec.substate = .blockTypeLow →
      let a := 41728 + (kix * 2 + 1) * 16 + hi
      let b := if s.isDecode then BitVec.ofNat 8 (hi * 16 + v.toNat) else c.blockType
      s.codedStep (s.prior a) (BitVec.ofNat 4 (c.blockType.toNat % 16)) v (codecStep s) fun base =>
        done base a .fullyDecoded { c with blockType := b }
          { s.ctx with
            btypeLit := if kix = 0 then b else s.ctx.btypeLit
            btypeCmd := if kix = 1 then b else s.ctx.btypeCmd
            btypeDist := if kix = 2 then b else s.ctx.btypeDist })

/-! ### Commands -/

/-- R344, R345: the protocol checks of the command operations: after `ENC_FINISH` or after EOF they fail, and at a
command boundary `ENCODE_CMD` refuses a command with no encoding; nothing is coded. -/
def Obligations.CommandValidation : Prop :=
  ∀ (s : State) (c : Command),
    (s.encoding → s.ctl.encFinished = true ∨ s.codec.top = .topEof →
      exec (.encodeCmd c) s = .next (s.lock.failEntry .protocolViolation)) ∧
    (s.decoding → s.codec.top = .topEof → exec .decodeCmd s = .next (s.lock.failEntry .protocolViolation)) ∧
    (s.encoding → s.ctl.encFinished = false → s.codec.top = .topBegin →
      c.kind ∉ ([1, 2, 3, 4, 5, 6, 7, 15] : List Nibble) ∨ (c.kind = 1 ∧ c.distance = 0) ∨
        (c.kind = 3 ∧ (Config.literalMaxLen < c.len.toNat ∨ c.data.length ≠ c.len.toNat)) ∨
        (c.kind = 7 ∧ (16384 < c.litMap.length ∨ 1024 < c.distMap.length)) →
      exec (.encodeCmd c) s = .next (s.lock.failEntry .protocolViolation))

/-- R301, R302, R330, R344, R345: the EOF command in `DIRECT16` mode. Encoding it buffers the one symbol of nibble 15,
blends its cell and ends the session's commands; decoding it, with the offset in that symbol's interval, does the same
and returns it. -/
def Obligations.EofCommand : Prop :=
  ∀ s : State, s.direct16 = true → s.codec.top = .topBegin →
    let a := s.ctx.btypeCmd.toNat * 16 + s.ctx.lastCmd.toNat
    let x := s.prior a
    let coded : State := { s.lock with
      ctx := { s.ctx with lastCmd := 15, eofSeen := true }
      codec := { top := .topEof, substate := .begin, cmd := Command.blank 15 }
      model := { s.model with priors := Memory.write defaultCdf s.model.priors a (blend x 15 5) } }
    validCell x = true → (∀ i < 16, 2 ≤ pdf x i) →
    (s.encoding → s.ctl.encFinished = false → s.ans2.symCount.toNat < 16384 →
      exec (.encodeCmd (Command.blank 15)) s =
        .next (({ coded with ans2 := { s.ans2 with
          symbuf := Memory.write SymCell.zero s.ans2.symbuf s.ans2.symCount.toNat
            ⟨symStart x 15, symFreq x 15⟩
          symCount := s.ans2.symCount + 1 } } : State).answer .success .nothing)) ∧
    (s.decoding → s.ans2.bootNeed = 0 → s.ans2.pullNeed = 0 →
      (symStart x 15).toNat ≤ s.ans2.stateA.toNat % 32768 →
      s.ans2.stateA.toNat % 32768 < (symStart x 15).toNat + (symFreq x 15).toNat →
      ∃ t, exec (.nDecAdvanceSym (symStart x 15) (symFreq x 15)) s = .next t ∧ t.ctl.result = .success ∧
        exec .decodeCmd s =
          .next (({ coded with ans2 := t.ans2 } : State).answer .success (.command (Command.blank 15))))

/-- R264 to R267, R269, R281, R285, R287, R288, R301, R304, R320, R322, R331, in every mode: a codec step that
reads a value table codes its nibble, an encoder's choice, against its cell, blends the cell at its speed, and then does
what the row of the nibble does at that state (log 2). The step `Begin` goes to the first substate of its command;
`CountDecoded` goes on to the distance; and a distance context beyond the map fails before anything is coded.
R280, R290, R292: `ENCODE_CMD` of a Copy of 0 to 9 bytes at the most recent distance, with the repeat escape off and no
distance map, is three such steps: three symbols, three cells blended, and the distances as they were. -/
def Obligations.TableStepsAndRecentCopy : Prop :=
  (∀ (s : State) (n : TableNibble) (v : Nibble), s.memoriesCanonical = true → s.tableNibble = some n →
     (s.ctl.failed = false → s.expects = some n.table) ∧
     s.codedStep (s.prior n.cell) n.want v (codecStep s) fun b =>
     ∃ coded t, b.blendedAs n.cell n.speed v coded ∧ exec (decodeNibble n.table v) coded = .next t ∧
       codecStep s = if t.ctl.failed then .fail t else .ok () t) ∧
  (∀ s : State, s.codec.top = .inCommand → s.codec.substate = .begin →
     ∀ p ∈ [((1 : Nibble), Substate.countSmall), (2, .dictField 0 .small), (3, .literalCountSmall),
         (4, .blockTypeHigh), (5, .blockTypeHigh), (6, .blockTypeHigh), (7, .predMode), (15, .fullyDecoded)],
       s.codec.cmd.kind = p.1 → codecStep s = .ok () (s.withCodec p.2 s.codec.cmd s.ctx)) ∧
  (∀ s : State, s.codec.top = .inCommand →
     (s.codec.substate = .countDecoded → s.distSlot? ≠ none →
       codecStep s = .ok () (s.withCodec .distanceLengthMnemonic s.codec.cmd s.ctx)) ∧
     (s.codec.substate = .countDecoded ∨ s.codec.substate = .distanceLengthMnemonic ∨
         s.codec.substate = .distanceLengthFirst ∨
         (∃ ld lr dsf, s.codec.substate = .distanceMantissaNibbles ld lr dsf) → s.distSlot? = none →
       codecStep s = .fail (s.failEntry .contextMapIndexOutOfRange))) ∧
  ∀ (s : State) (n : BitVec 32), s.encoding → s.memoriesCanonical = true → s.direct16 = true →
    s.ctl.encFinished = false → s.codec.top = .topBegin → s.ctl.cfg.getLsbD 4 = false → n.toNat ≤ 9 →
    s.ctx.distanceLru[0] ≠ 0 → s.ctx.distCmapLen = 0 → s.ans2.symCount.toNat + 3 ≤ 16384 →
    let a1 := s.ctx.btypeCmd.toNat * 16 + s.ctx.lastCmd.toNat
    let a2 := 4096 + s.ctx.btypeCmd.toNat * 12
    (∀ a ∈ [a1, a2, 7168], validCell (s.prior a) = true ∧ ∀ i < 16, 2 ≤ pdf (s.prior a) i) →
    let c := { Command.blank 1 with distance := s.ctx.distanceLru[0], numBytes := n }
    ∃ t, exec (.encodeCmd c) s = .next t ∧ t.ctl.result = .success ∧
      t = ({ s.lock with
        ctx := { s.ctx with lastCmd := 1 }
        codec := { top := .topBegin, substate := .begin, cmd := c }
        model := { s.model with priors := t.model.priors }
        ans2 := { s.ans2 with symbuf := t.ans2.symbuf, symCount := s.ans2.symCount + 3 } } : State).answer
          .success .nothing ∧
      t.prior a1 = blend (s.prior a1) 1 5 ∧ t.prior a2 = blend (s.prior a2) n.toNat 5 ∧
      t.prior 7168 = blend (s.prior 7168) 0 5 ∧
      (∀ a, a ∉ [a1, a2, 7168] → t.prior a = s.prior a) ∧
      (∀ i, Memory.read SymCell.zero t.ans2.symbuf i =
        if i = s.ans2.symCount.toNat then ⟨symStart (s.prior a1) 1, symFreq (s.prior a1) 1⟩
        else if i = s.ans2.symCount.toNat + 1 then
          ⟨symStart (s.prior a2) n.toNat, symFreq (s.prior a2) n.toNat⟩
        else if i = s.ans2.symCount.toNat + 2 then
          ⟨symStart (s.prior 7168) 0, symFreq (s.prior 7168) 0⟩
        else Memory.read SymCell.zero s.ans2.symbuf i)

/-- R344, R345, R360: in every state `ENCODE_CMD` and `DECODE_CMD` answer one of the four results: their loop ends (the
model's bound on it is never met, log 11) and every nibble meets the row its step reads. -/
def Obligations.CommandsAlwaysAnswer : Prop :=
  ∀ s : State, (∀ c, ∃ t, exec (.encodeCmd c) s = .next t) ∧ ∃ t, exec .decodeCmd s = .next t

/-- R300, R302, R344, R345: `ENCODE_CMD` and `DECODE_CMD` are their codec steps. At a boundary `ENCODE_CMD` takes a valid
command; a step that completes is followed by the same operation, one that waits or fails ends it with that result, and
a fully coded command ends it with `Success` and brings the codec back to a boundary, or to the end of the file. That the
command taken stays when the type step waits is the model's reading of R344 against R350 (log 16). -/
def Obligations.CommandIsItsSteps : Prop :=
  ∀ (s : State) (c : Command) (i : Instr), s.codec.top ≠ .topEof →
    (i = .encodeCmd c ∧ s.encoding ∧ s.ctl.encFinished = false ∧
        (s.codec.top = .topBegin → validCommand c = true)) ∨
      (i = .decodeCmd ∧ s.decoding) →
    let s' :=
      if s.isDecode = false ∧ s.codec.top = .topBegin then { s.lock with codec := { s.codec with cmd := c } }
      else s.lock
    (s.codec.top = .inCommand → s.codec.substate = .fullyDecoded →
      exec i s = .next (({ s.lock with
        ctx := { s.ctx with eofSeen := s.ctx.eofSeen || decide (s.codec.cmd.kind = 15) }
        codec := { s.codec with
          top := if s.codec.cmd.kind = 15 then .topEof else .topBegin
          substate := .begin } } : State).answer .success
            (if s.isDecode then .command s.codec.cmd else .nothing))) ∧
    (s.codec.top = .topBegin ∨ s.codec.substate ≠ .fullyDecoded → ∀ t,
      (codecStep s' = .ok () t → exec i s = exec i t) ∧
      (∀ w, codecStep s' = .wait w t → exec i s = .next (t.answer w.result .nothing)) ∧
      (codecStep s' = .fail t → exec i s = .next t))

/-- R261, R350: a codec step that suspends leaves the codec registers, the bookkeeping registers and maps, the priors
and the CDF2 cells as they were. -/
def Obligations.SuspendedStepKeepsCodec : Prop :=
  ∀ (s t : State) (w : Wait), codecStep s = .wait w t →
    t.codec = s.codec ∧ t.ctx = s.ctx ∧ t.model.priors = s.model.priors ∧ t.model.cdf2s = s.model.cdf2s ∧
      t.ctl = s.ctl ∧ t.port = s.port

/-! ### What every step keeps -/

/-- Every memory keeps its canonical form: equal memories are equal data (R44). -/
def Obligations.StepKeepsMemoriesCanonical : Prop :=
  ∀ s t : State, s.memoriesCanonical = true → step s = .next t → t.memoriesCanonical = true

/-- R34, R36, R361, R372, R40, R302: `CFG` stays a legal configuration with its hard-wired bit 0, `ERRCODE` and the
failure mark stay together, and `eof_seen` stays the mark of `TOP_EOF`. -/
def Obligations.StepKeepsControlRegisters : Prop :=
  ∀ s t : State, s.cfgLegal → s.failureRecorded → s.eofConsistent → step s = .next t →
    t.cfgLegal ∧ t.failureRecorded ∧ t.eofConsistent

/-- R22, R23, R24, R121, R122: the index and counting registers stay in their ranges. -/
def Obligations.StepKeepsIndicesInRange : Prop :=
  ∀ s t : State, s.indicesInRange → step s = .next t → t.indicesInRange

/-- R369, R224, R313: every prior and every CDF2 stays valid, and every weight stays within `0..32768`. `MIX` is not
among them: averaged from thin host-written cells it need not be valid (log 5). -/
def Obligations.StepKeepsCellsValid : Prop :=
  ∀ s t : State, s.memoriesCanonical = true → s.cellsValid → step s = .next t → t.cellsValid

/-- R41, R268, R300, R302: the codec stays at a substate of its command's kind, with the parameters in range. -/
def Obligations.StepKeepsSequence : Prop :=
  ∀ s t : State, s.sequenceOk → step s = .next t → t.sequenceOk

/-- The reset state has all these properties (R391). -/
def Obligations.ResetHasInvariants : Prop :=
  State.reset.memoriesCanonical = true ∧ State.reset.cfgLegal ∧ State.reset.failureRecorded ∧
    State.reset.eofConsistent ∧ State.reset.indicesInRange ∧ State.reset.cellsValid ∧ State.reset.sequenceOk

/-- R34, R25, R26: the only writers of `CFG`, of `enc_finished` and of the nibble-tree registers; in `DIRECT16` mode
nothing but `RESET` writes the nibble-tree registers; no instruction changes the waiting requests (log 1). And the frame
of every operation, component by component: an operation that is not among the writers of a component leaves all its
registers and every cell of its memories as they were. -/
def Obligations.OnlyNamedWriters : Prop :=
  (∀ (i : Instr) (s t : State), exec i s = .next t →
     (i ≠ .reset → (∀ cfg, i ≠ .setCfg cfg) → t.ctl.cfg = s.ctl.cfg) ∧
     (writesEncFinished i = false → t.ctl.encFinished = s.ctl.encFinished) ∧
     (writesBitTree i = false → t.bt = s.bt) ∧
     (i ≠ .reset → s.direct16 = true → t.bt = s.bt) ∧
     t.port.requests = s.port.requests) ∧
  ∀ (i : Instr) (s t : State), isOperation i = true → exec i s = .next t →
    (writesModel i = false → t.model = s.model) ∧ (writesAns1 i = false → t.ans1 = s.ans1) ∧
    (writesAns2 i = false → t.ans2 = s.ans2) ∧ (writesQueues i = false → t.queues = s.queues) ∧
    (writesCodec i = false → t.ctx = s.ctx ∧ t.codec = s.codec)
end

