-- ==== Sys2Proof/Laws/Memory.lean ====
section
/-! SUPPORT. The laws of one memory: a read after a write, and the canonical form kept by every memory operation. -/

namespace Sys2Proof.Machine

section
variable {α : Type} [DecidableEq α] {d : α}

/-! ### Reads -/

omit [DecidableEq α] in
@[simp] theorem Memory.read_nil (a : Nat) : Memory.read d [] a = d := rfl

/-- Below the first listed address a memory reads as its reset contents. -/
theorem Memory.read_of_wfFrom_lt {m : Memory α} {lo a : Nat} (h : Memory.wfFrom d lo m = true) (ha : a < lo) :
    Memory.read d m a = d := by
  induction m generalizing lo with
  | nil => rfl
  | cons p m ih =>
    obtain ⟨k, v⟩ := p
    simp only [Memory.wfFrom, Bool.and_eq_true, decide_eq_true_eq] at h
    have hk : a ≠ k := by omega
    simp only [Memory.read, if_neg hk]
    exact ih h.2 (by omega)

/-- What an address reads as after a write, in a memory listed from `lo` on. -/
theorem Memory.read_write_from {m : Memory α} {lo : Nat} (h : Memory.wfFrom d lo m = true) (a b : Nat) (v : α) :
    Memory.read d (Memory.write d m a v) b = if b = a then v else Memory.read d m b := by
  induction m generalizing lo with
  | nil =>
    by_cases hv : v = d <;> by_cases hb : b = a <;> simp [Memory.write, Memory.read, hv, hb]
  | cons p m ih =>
    obtain ⟨k, x⟩ := p
    have h' := h
    simp only [Memory.wfFrom, Bool.and_eq_true, decide_eq_true_eq] at h'
    obtain ⟨⟨_, hx⟩, hm⟩ := h'
    by_cases hlt : a < k
    · by_cases hv : v = d
      · by_cases hb : b = a
        · subst hb
          have hk : b ≠ k := by omega
          simp [Memory.write, hlt, hv, Memory.read, hk,
            Memory.read_of_wfFrom_lt hm (show b < k + 1 by omega)]
        · simp [Memory.write, hlt, hv, hb]
      · by_cases hb : b = a <;> simp [Memory.write, hlt, hv, Memory.read, hb]
    · by_cases hk : a = k
      · subst hk
        by_cases hv : v = d
        · by_cases hb : b = a
          · subst hb
            simp [Memory.write, hv, Memory.read_of_wfFrom_lt hm (show b < b + 1 by omega)]
          · simp [Memory.write, hv, Memory.read, hb]
        · by_cases hb : b = a <;> simp [Memory.write, hv, Memory.read, hb]
      · by_cases hb : b = k
        · have hba : b ≠ a := by omega
          simp [Memory.write, hlt, hk, Memory.read, hb, show k ≠ a by omega]
        · simp [Memory.write, hlt, hk, Memory.read, hb, ih hm]

/-- A read after a write: the address written reads as the value, every other as before. -/
theorem Memory.read_write {m : Memory α} (h : Memory.wf d m = true) (a b : Nat) (v : α) :
    Memory.read d (Memory.write d m a v) b = if b = a then v else Memory.read d m b :=
  Memory.read_write_from h a b v

/-! ### The canonical form -/

/-- A bound on the addresses may be lowered. -/
theorem Memory.wfFrom_mono {m : Memory α} {lo lo' : Nat} (h : Memory.wfFrom d lo m = true) (hlo : lo' ≤ lo) :
    Memory.wfFrom d lo' m = true := by
  cases m with
  | nil => rfl
  | cons p m =>
    simp only [Memory.wfFrom, Bool.and_eq_true, decide_eq_true_eq] at h ⊢
    exact ⟨⟨by omega, h.1.2⟩, h.2⟩

/-- A write at or above the lower bound keeps the canonical form. -/
theorem Memory.wfFrom_write {m : Memory α} {lo a : Nat} (v : α) (h : Memory.wfFrom d lo m = true) (ha : lo ≤ a) :
    Memory.wfFrom d lo (Memory.write d m a v) = true := by
  induction m generalizing lo with
  | nil =>
    by_cases hv : v = d <;> simp [Memory.write, hv, Memory.wfFrom, ha]
  | cons p m ih =>
    obtain ⟨k, x⟩ := p
    have h' := h
    simp only [Memory.wfFrom, Bool.and_eq_true, decide_eq_true_eq] at h'
    obtain ⟨⟨hk, hx⟩, hm⟩ := h'
    by_cases hlt : a < k
    · by_cases hv : v = d
      · simpa [Memory.write, hlt, hv] using h
      · simp [Memory.write, hlt, hv, Memory.wfFrom, ha, hx, hm]
    · by_cases hak : a = k
      · by_cases hv : v = d
        · simpa [Memory.write, hak, hv] using Memory.wfFrom_mono hm (by omega)
        · simp [Memory.write, hak, hv, Memory.wfFrom, hk, hm]
      · simp [Memory.write, hlt, hak, Memory.wfFrom, hk, hx, ih hm (show k + 1 ≤ a by omega)]

/-- A write keeps the canonical form. -/
theorem Memory.wf_write {m : Memory α} (a : Nat) (v : α) (h : Memory.wf d m = true) :
    Memory.wf d (Memory.write d m a v) = true := Memory.wfFrom_write v h (Nat.zero_le a)

/-- Writing a list keeps the canonical form. -/
theorem Memory.wf_writeList {m : Memory α} (a : Nat) (vs : List α) (h : Memory.wf d m = true) :
    Memory.wf d (Memory.writeList d m a vs) = true := by
  induction vs generalizing m a with
  | nil => exact h
  | cons v vs ih => exact ih (a + 1) (Memory.wf_write a v h)

/-- What an address reads as after a list is written. -/
theorem Memory.read_writeList {m : Memory α} (h : Memory.wf d m = true) (a b : Nat) (vs : List α) :
    Memory.read d (Memory.writeList d m a vs) b =
      if a ≤ b then (vs[b - a]?).getD (Memory.read d m b) else Memory.read d m b := by
  induction vs generalizing m a with
  | nil => simp [Memory.writeList]
  | cons v vs ih =>
    simp only [Memory.writeList, ih (Memory.wf_write a v h), Memory.read_write h]
    by_cases hab : b = a
    · subst hab
      have hn : ¬ b + 1 ≤ b := by omega
      simp [hn]
    · by_cases hle : a ≤ b
      · have h1 : a + 1 ≤ b := by omega
        have h2 : b - a = (b - (a + 1)) + 1 := by omega
        simp [hab, hle, h1, h2]
      · have h1 : ¬ a + 1 ≤ b := by omega
        simp [hab, hle, h1]

omit [DecidableEq α] in
/-- Reading a list gives as many cells as asked for. -/
@[simp] theorem Memory.length_readList (m : Memory α) (a n : Nat) :
    (Memory.readList d m a n).length = n := by
  induction n generalizing a with
  | zero => rfl
  | succ n ih => simp [Memory.readList, ih]

omit [DecidableEq α] in
/-- The cells a list read gives. -/
theorem Memory.getElem?_readList (m : Memory α) (a n i : Nat) (hi : i < n) :
    (Memory.readList d m a n)[i]? = some (Memory.read d m (a + i)) := by
  induction n generalizing a i with
  | zero => omega
  | succ n ih =>
    cases i with
    | zero => simp [Memory.readList]
    | succ i =>
      simp only [Memory.readList, List.getElem?_cons_succ, ih (a + 1) i (by omega)]
      congr 2
      omega

end

/-! ### The ring -/

/-- Writing into the ring keeps the canonical form. -/
theorem wf_ringWrite {m : Memory Byte} (i : Nat) (bs : List Byte) (h : Memory.wf 0 m = true) :
    Memory.wf 0 (ringWrite m i bs) = true := by
  induction bs generalizing m i with
  | nil => exact h
  | cons b bs ih => exact ih (i + 1) (Memory.wf_write _ b h)

/-- A ring read gives as many bytes as asked for. -/
@[simp] theorem length_ringRead (m : Memory Byte) (i n : Nat) : (ringRead m i n).length = n := by
  induction n generalizing i with
  | zero => rfl
  | succ n ih => simp [ringRead, ih]

/-- Pushing keeps both queue memories canonical. -/
theorem Queues.push_wf {qs : Queues} (q : Queue) (src : List Byte) (hi : Memory.wf 0 qs.inMem = true)
    (ho : Memory.wf 0 qs.outMem = true) :
    Memory.wf 0 (qs.push q src).inMem = true ∧ Memory.wf 0 (qs.push q src).outMem = true := by
  cases q
  · exact ⟨wf_ringWrite _ _ hi, ho⟩
  · exact ⟨hi, Memory.wf_writeList _ _ ho⟩

/-- A pop leaves the contents of both queues as they are. -/
theorem Queues.pop_memories (qs : Queues) (q : Queue) (len : Nat) :
    (qs.pop q len).inMem = qs.inMem ∧ (qs.pop q len).outMem = qs.outMem := by cases q <;> exact ⟨rfl, rfl⟩

/-- A pop gives as many bytes as it counts. -/
theorem Queues.length_popBytes (qs : Queues) (q : Queue) (len : Nat) :
    (qs.popBytes q len).length = qs.popCount q len := by
  cases q <;> simp [Queues.popBytes]

end Sys2Proof.Machine
end

