-- ==== Sys2Proof/Laws/State.lean ====
section
/-! SUPPORT. One lemma per field and per update of the state: what the update leaves in the field. -/

namespace Sys2Proof.Machine

/-! ### `failEntry` -/

@[simp] theorem State.failEntry_ctl (c : Cause) (s : State) :
    (s.failEntry c).ctl =
      { s.ctl with errcode := if s.ctl.failed then s.ctl.errcode else c.code, failed := true, result := .failure } := rfl
@[simp] theorem State.failEntry_codec (c : Cause) (s : State) : (s.failEntry c).codec = s.codec := rfl
@[simp] theorem State.failEntry_ctx (c : Cause) (s : State) : (s.failEntry c).ctx = s.ctx := rfl
@[simp] theorem State.failEntry_model (c : Cause) (s : State) : (s.failEntry c).model = s.model := rfl
@[simp] theorem State.failEntry_bt (c : Cause) (s : State) : (s.failEntry c).bt = s.bt := rfl
@[simp] theorem State.failEntry_ans1 (c : Cause) (s : State) : (s.failEntry c).ans1 = s.ans1 := rfl
@[simp] theorem State.failEntry_ans2 (c : Cause) (s : State) : (s.failEntry c).ans2 = s.ans2 := rfl
@[simp] theorem State.failEntry_queues (c : Cause) (s : State) : (s.failEntry c).queues = s.queues := rfl
@[simp] theorem State.failEntry_port (c : Cause) (s : State) :
    (s.failEntry c).port =
      { s.port with response := ⟨.failure, .nothing⟩ } := rfl

/-! ### `refuseFailed` -/

@[simp] theorem State.refuseFailed_ctl (s : State) : (s.refuseFailed).ctl = { s.ctl with result := .failure } := rfl
@[simp] theorem State.refuseFailed_codec (s : State) : (s.refuseFailed).codec = s.codec := rfl
@[simp] theorem State.refuseFailed_ctx (s : State) : (s.refuseFailed).ctx = s.ctx := rfl
@[simp] theorem State.refuseFailed_model (s : State) : (s.refuseFailed).model = s.model := rfl
@[simp] theorem State.refuseFailed_bt (s : State) : (s.refuseFailed).bt = s.bt := rfl
@[simp] theorem State.refuseFailed_ans1 (s : State) : (s.refuseFailed).ans1 = s.ans1 := rfl
@[simp] theorem State.refuseFailed_ans2 (s : State) : (s.refuseFailed).ans2 = s.ans2 := rfl
@[simp] theorem State.refuseFailed_queues (s : State) : (s.refuseFailed).queues = s.queues := rfl
@[simp] theorem State.refuseFailed_port (s : State) :
    (s.refuseFailed).port =
      { s.port with response := ⟨.failure, .nothing⟩ } := rfl

/-! ### `answer` -/

@[simp] theorem State.answer_ctl (r : Result) (ret : Returns) (s : State) :
    (s.answer r ret).ctl =
      { s.ctl with result := r } := rfl
@[simp] theorem State.answer_codec (r : Result) (ret : Returns) (s : State) : (s.answer r ret).codec = s.codec := rfl
@[simp] theorem State.answer_ctx (r : Result) (ret : Returns) (s : State) : (s.answer r ret).ctx = s.ctx := rfl
@[simp] theorem State.answer_model (r : Result) (ret : Returns) (s : State) : (s.answer r ret).model = s.model := rfl
@[simp] theorem State.answer_bt (r : Result) (ret : Returns) (s : State) : (s.answer r ret).bt = s.bt := rfl
@[simp] theorem State.answer_ans1 (r : Result) (ret : Returns) (s : State) : (s.answer r ret).ans1 = s.ans1 := rfl
@[simp] theorem State.answer_ans2 (r : Result) (ret : Returns) (s : State) : (s.answer r ret).ans2 = s.ans2 := rfl
@[simp] theorem State.answer_queues (r : Result) (ret : Returns) (s : State) :
    (s.answer r ret).queues =
      s.queues := rfl
@[simp] theorem State.answer_port (r : Result) (ret : Returns) (s : State) :
    (s.answer r ret).port =
      { s.port with response := ⟨r, ret⟩ } := rfl

/-! ### `lock` -/

@[simp] theorem State.lock_ctl (s : State) : (s.lock).ctl = { s.ctl with cfgLocked := true } := rfl
@[simp] theorem State.lock_codec (s : State) : (s.lock).codec = s.codec := rfl
@[simp] theorem State.lock_ctx (s : State) : (s.lock).ctx = s.ctx := rfl
@[simp] theorem State.lock_model (s : State) : (s.lock).model = s.model := rfl
@[simp] theorem State.lock_bt (s : State) : (s.lock).bt = s.bt := rfl
@[simp] theorem State.lock_ans1 (s : State) : (s.lock).ans1 = s.ans1 := rfl
@[simp] theorem State.lock_ans2 (s : State) : (s.lock).ans2 = s.ans2 := rfl
@[simp] theorem State.lock_queues (s : State) : (s.lock).queues = s.queues := rfl
@[simp] theorem State.lock_port (s : State) : (s.lock).port = s.port := rfl

/-! ### `push` -/

@[simp] theorem State.push_ctl (q : Queue) (src : List Byte) (s : State) : (s.push q src).ctl = s.ctl := rfl
@[simp] theorem State.push_codec (q : Queue) (src : List Byte) (s : State) : (s.push q src).codec = s.codec := rfl
@[simp] theorem State.push_ctx (q : Queue) (src : List Byte) (s : State) : (s.push q src).ctx = s.ctx := rfl
@[simp] theorem State.push_model (q : Queue) (src : List Byte) (s : State) : (s.push q src).model = s.model := rfl
@[simp] theorem State.push_bt (q : Queue) (src : List Byte) (s : State) : (s.push q src).bt = s.bt := rfl
@[simp] theorem State.push_ans1 (q : Queue) (src : List Byte) (s : State) : (s.push q src).ans1 = s.ans1 := rfl
@[simp] theorem State.push_ans2 (q : Queue) (src : List Byte) (s : State) : (s.push q src).ans2 = s.ans2 := rfl
@[simp] theorem State.push_queues (q : Queue) (src : List Byte) (s : State) :
    (s.push q src).queues =
      s.queues.push q src := rfl
@[simp] theorem State.push_port (q : Queue) (src : List Byte) (s : State) : (s.push q src).port = s.port := rfl

/-! ### `pop` -/

@[simp] theorem State.pop_ctl (q : Queue) (len : Nat) (s : State) : (s.pop q len).ctl = s.ctl := rfl
@[simp] theorem State.pop_codec (q : Queue) (len : Nat) (s : State) : (s.pop q len).codec = s.codec := rfl
@[simp] theorem State.pop_ctx (q : Queue) (len : Nat) (s : State) : (s.pop q len).ctx = s.ctx := rfl
@[simp] theorem State.pop_model (q : Queue) (len : Nat) (s : State) : (s.pop q len).model = s.model := rfl
@[simp] theorem State.pop_bt (q : Queue) (len : Nat) (s : State) : (s.pop q len).bt = s.bt := rfl
@[simp] theorem State.pop_ans1 (q : Queue) (len : Nat) (s : State) : (s.pop q len).ans1 = s.ans1 := rfl
@[simp] theorem State.pop_ans2 (q : Queue) (len : Nat) (s : State) : (s.pop q len).ans2 = s.ans2 := rfl
@[simp] theorem State.pop_queues (q : Queue) (len : Nat) (s : State) :
    (s.pop q len).queues =
      s.queues.pop q len := rfl
@[simp] theorem State.pop_port (q : Queue) (len : Nat) (s : State) : (s.pop q len).port = s.port := rfl

/-! ### `setPrior` -/

@[simp] theorem State.setPrior_ctl (a : Nat) (x : Cdf16) (s : State) : (s.setPrior a x).ctl = s.ctl := rfl
@[simp] theorem State.setPrior_codec (a : Nat) (x : Cdf16) (s : State) : (s.setPrior a x).codec = s.codec := rfl
@[simp] theorem State.setPrior_ctx (a : Nat) (x : Cdf16) (s : State) : (s.setPrior a x).ctx = s.ctx := rfl
@[simp] theorem State.setPrior_model (a : Nat) (x : Cdf16) (s : State) :
    (s.setPrior a x).model =
      { s.model with priors := Memory.write defaultCdf s.model.priors a x } := rfl
@[simp] theorem State.setPrior_bt (a : Nat) (x : Cdf16) (s : State) : (s.setPrior a x).bt = s.bt := rfl
@[simp] theorem State.setPrior_ans1 (a : Nat) (x : Cdf16) (s : State) : (s.setPrior a x).ans1 = s.ans1 := rfl
@[simp] theorem State.setPrior_ans2 (a : Nat) (x : Cdf16) (s : State) : (s.setPrior a x).ans2 = s.ans2 := rfl
@[simp] theorem State.setPrior_queues (a : Nat) (x : Cdf16) (s : State) : (s.setPrior a x).queues = s.queues := rfl
@[simp] theorem State.setPrior_port (a : Nat) (x : Cdf16) (s : State) : (s.setPrior a x).port = s.port := rfl

/-! ### `setMix` -/

@[simp] theorem State.setMix_ctl (x : Cdf16) (s : State) : (s.setMix x).ctl = s.ctl := rfl
@[simp] theorem State.setMix_codec (x : Cdf16) (s : State) : (s.setMix x).codec = s.codec := rfl
@[simp] theorem State.setMix_ctx (x : Cdf16) (s : State) : (s.setMix x).ctx = s.ctx := rfl
@[simp] theorem State.setMix_model (x : Cdf16) (s : State) : (s.setMix x).model = { s.model with mix := x } := rfl
@[simp] theorem State.setMix_bt (x : Cdf16) (s : State) : (s.setMix x).bt = s.bt := rfl
@[simp] theorem State.setMix_ans1 (x : Cdf16) (s : State) : (s.setMix x).ans1 = s.ans1 := rfl
@[simp] theorem State.setMix_ans2 (x : Cdf16) (s : State) : (s.setMix x).ans2 = s.ans2 := rfl
@[simp] theorem State.setMix_queues (x : Cdf16) (s : State) : (s.setMix x).queues = s.queues := rfl
@[simp] theorem State.setMix_port (x : Cdf16) (s : State) : (s.setMix x).port = s.port := rfl

/-! ### `setCdf2` -/

@[simp] theorem State.setCdf2_ctl (a2 : Nibble) (x : Cdf2) (s : State) : (s.setCdf2 a2 x).ctl = s.ctl := rfl
@[simp] theorem State.setCdf2_codec (a2 : Nibble) (x : Cdf2) (s : State) : (s.setCdf2 a2 x).codec = s.codec := rfl
@[simp] theorem State.setCdf2_ctx (a2 : Nibble) (x : Cdf2) (s : State) : (s.setCdf2 a2 x).ctx = s.ctx := rfl
@[simp] theorem State.setCdf2_model (a2 : Nibble) (x : Cdf2) (s : State) :
    (s.setCdf2 a2 x).model =
      { s.model with cdf2s := Memory.write defaultCdf2 s.model.cdf2s a2.toNat x } := rfl
@[simp] theorem State.setCdf2_bt (a2 : Nibble) (x : Cdf2) (s : State) : (s.setCdf2 a2 x).bt = s.bt := rfl
@[simp] theorem State.setCdf2_ans1 (a2 : Nibble) (x : Cdf2) (s : State) : (s.setCdf2 a2 x).ans1 = s.ans1 := rfl
@[simp] theorem State.setCdf2_ans2 (a2 : Nibble) (x : Cdf2) (s : State) : (s.setCdf2 a2 x).ans2 = s.ans2 := rfl
@[simp] theorem State.setCdf2_queues (a2 : Nibble) (x : Cdf2) (s : State) : (s.setCdf2 a2 x).queues = s.queues := rfl
@[simp] theorem State.setCdf2_port (a2 : Nibble) (x : Cdf2) (s : State) : (s.setCdf2 a2 x).port = s.port := rfl

/-! ### `goto` -/

@[simp] theorem State.goto_ctl (x : Substate) (s : State) : (s.goto x).ctl = s.ctl := rfl
@[simp] theorem State.goto_codec (x : Substate) (s : State) : (s.goto x).codec = { s.codec with substate := x } := rfl
@[simp] theorem State.goto_ctx (x : Substate) (s : State) : (s.goto x).ctx = s.ctx := rfl
@[simp] theorem State.goto_model (x : Substate) (s : State) : (s.goto x).model = s.model := rfl
@[simp] theorem State.goto_bt (x : Substate) (s : State) : (s.goto x).bt = s.bt := rfl
@[simp] theorem State.goto_ans1 (x : Substate) (s : State) : (s.goto x).ans1 = s.ans1 := rfl
@[simp] theorem State.goto_ans2 (x : Substate) (s : State) : (s.goto x).ans2 = s.ans2 := rfl
@[simp] theorem State.goto_queues (x : Substate) (s : State) : (s.goto x).queues = s.queues := rfl
@[simp] theorem State.goto_port (x : Substate) (s : State) : (s.goto x).port = s.port := rfl

/-! ### `setCmd` -/

@[simp] theorem State.setCmd_ctl (f : Command → Command) (s : State) : (s.setCmd f).ctl = s.ctl := rfl
@[simp] theorem State.setCmd_codec (f : Command → Command) (s : State) :
    (s.setCmd f).codec =
      { s.codec with cmd := f s.codec.cmd } := rfl
@[simp] theorem State.setCmd_ctx (f : Command → Command) (s : State) : (s.setCmd f).ctx = s.ctx := rfl
@[simp] theorem State.setCmd_model (f : Command → Command) (s : State) : (s.setCmd f).model = s.model := rfl
@[simp] theorem State.setCmd_bt (f : Command → Command) (s : State) : (s.setCmd f).bt = s.bt := rfl
@[simp] theorem State.setCmd_ans1 (f : Command → Command) (s : State) : (s.setCmd f).ans1 = s.ans1 := rfl
@[simp] theorem State.setCmd_ans2 (f : Command → Command) (s : State) : (s.setCmd f).ans2 = s.ans2 := rfl
@[simp] theorem State.setCmd_queues (f : Command → Command) (s : State) : (s.setCmd f).queues = s.queues := rfl
@[simp] theorem State.setCmd_port (f : Command → Command) (s : State) : (s.setCmd f).port = s.port := rfl

/-! ### `setCtx` -/

@[simp] theorem State.setCtx_ctl (f : Context → Context) (s : State) : (s.setCtx f).ctl = s.ctl := rfl
@[simp] theorem State.setCtx_codec (f : Context → Context) (s : State) : (s.setCtx f).codec = s.codec := rfl
@[simp] theorem State.setCtx_ctx (f : Context → Context) (s : State) : (s.setCtx f).ctx = f s.ctx := rfl
@[simp] theorem State.setCtx_model (f : Context → Context) (s : State) : (s.setCtx f).model = s.model := rfl
@[simp] theorem State.setCtx_bt (f : Context → Context) (s : State) : (s.setCtx f).bt = s.bt := rfl
@[simp] theorem State.setCtx_ans1 (f : Context → Context) (s : State) : (s.setCtx f).ans1 = s.ans1 := rfl
@[simp] theorem State.setCtx_ans2 (f : Context → Context) (s : State) : (s.setCtx f).ans2 = s.ans2 := rfl
@[simp] theorem State.setCtx_queues (f : Context → Context) (s : State) : (s.setCtx f).queues = s.queues := rfl
@[simp] theorem State.setCtx_port (f : Context → Context) (s : State) : (s.setCtx f).port = s.port := rfl

/-! ### `withCodec` -/

@[simp] theorem State.withCodec_ctl (x : Substate) (c : Command) (y : Context) (s : State) :
    (s.withCodec x c y).ctl =
      s.ctl := rfl
@[simp] theorem State.withCodec_codec (x : Substate) (c : Command) (y : Context) (s : State) :
    (s.withCodec x c y).codec =
      { s.codec with substate := x, cmd := c } := rfl
@[simp] theorem State.withCodec_ctx (x : Substate) (c : Command) (y : Context) (s : State) :
    (s.withCodec x c y).ctx =
      y := rfl
@[simp] theorem State.withCodec_model (x : Substate) (c : Command) (y : Context) (s : State) :
    (s.withCodec x c y).model =
      s.model := rfl
@[simp] theorem State.withCodec_bt (x : Substate) (c : Command) (y : Context) (s : State) :
    (s.withCodec x c y).bt =
      s.bt := rfl
@[simp] theorem State.withCodec_ans1 (x : Substate) (c : Command) (y : Context) (s : State) :
    (s.withCodec x c y).ans1 =
      s.ans1 := rfl
@[simp] theorem State.withCodec_ans2 (x : Substate) (c : Command) (y : Context) (s : State) :
    (s.withCodec x c y).ans2 =
      s.ans2 := rfl
@[simp] theorem State.withCodec_queues (x : Substate) (c : Command) (y : Context) (s : State) :
    (s.withCodec x c y).queues =
      s.queues := rfl
@[simp] theorem State.withCodec_port (x : Substate) (c : Command) (y : Context) (s : State) :
    (s.withCodec x c y).port =
      s.port := rfl

/-! ### `dequeue` -/

@[simp] theorem State.dequeue_ctl (rest : List (List Byte)) (s : State) : (s.dequeue rest).ctl = s.ctl := rfl
@[simp] theorem State.dequeue_codec (rest : List (List Byte)) (s : State) : (s.dequeue rest).codec = s.codec := rfl
@[simp] theorem State.dequeue_ctx (rest : List (List Byte)) (s : State) : (s.dequeue rest).ctx = s.ctx := rfl
@[simp] theorem State.dequeue_model (rest : List (List Byte)) (s : State) : (s.dequeue rest).model = s.model := rfl
@[simp] theorem State.dequeue_bt (rest : List (List Byte)) (s : State) : (s.dequeue rest).bt = s.bt := rfl
@[simp] theorem State.dequeue_ans1 (rest : List (List Byte)) (s : State) : (s.dequeue rest).ans1 = s.ans1 := rfl
@[simp] theorem State.dequeue_ans2 (rest : List (List Byte)) (s : State) : (s.dequeue rest).ans2 = s.ans2 := rfl
@[simp] theorem State.dequeue_queues (rest : List (List Byte)) (s : State) : (s.dequeue rest).queues = s.queues := rfl
@[simp] theorem State.dequeue_port (rest : List (List Byte)) (s : State) :
    (s.dequeue rest).port =
      { s.port with requests := rest } := rfl

/-! ### What the failure entry, the answer and the lock keep of `CFG` -/

@[simp] theorem State.failEntry_isDecode (c : Cause) (s : State) : (s.failEntry c).isDecode = s.isDecode := rfl
@[simp] theorem State.failEntry_engineAns2 (c : Cause) (s : State) : (s.failEntry c).engineAns2 = s.engineAns2 := rfl
@[simp] theorem State.failEntry_direct16 (c : Cause) (s : State) : (s.failEntry c).direct16 = s.direct16 := rfl
@[simp] theorem State.refuseFailed_isDecode (s : State) : (s.refuseFailed).isDecode = s.isDecode := rfl
@[simp] theorem State.refuseFailed_engineAns2 (s : State) : (s.refuseFailed).engineAns2 = s.engineAns2 := rfl
@[simp] theorem State.refuseFailed_direct16 (s : State) : (s.refuseFailed).direct16 = s.direct16 := rfl
@[simp] theorem State.answer_isDecode (r : Result) (ret : Returns) (s : State) : (s.answer r ret).isDecode = s.isDecode := rfl
@[simp] theorem State.answer_engineAns2 (r : Result) (ret : Returns) (s : State) : (s.answer r ret).engineAns2 = s.engineAns2 := rfl
@[simp] theorem State.answer_direct16 (r : Result) (ret : Returns) (s : State) : (s.answer r ret).direct16 = s.direct16 := rfl
@[simp] theorem State.lock_isDecode (s : State) : (s.lock).isDecode = s.isDecode := rfl
@[simp] theorem State.lock_engineAns2 (s : State) : (s.lock).engineAns2 = s.engineAns2 := rfl
@[simp] theorem State.lock_direct16 (s : State) : (s.lock).direct16 = s.direct16 := rfl
@[simp] theorem State.push_isDecode (q : Queue) (src : List Byte) (s : State) : (s.push q src).isDecode = s.isDecode := rfl
@[simp] theorem State.push_engineAns2 (q : Queue) (src : List Byte) (s : State) : (s.push q src).engineAns2 = s.engineAns2 := rfl
@[simp] theorem State.push_direct16 (q : Queue) (src : List Byte) (s : State) : (s.push q src).direct16 = s.direct16 := rfl
@[simp] theorem State.pop_isDecode (q : Queue) (len : Nat) (s : State) : (s.pop q len).isDecode = s.isDecode := rfl
@[simp] theorem State.pop_engineAns2 (q : Queue) (len : Nat) (s : State) : (s.pop q len).engineAns2 = s.engineAns2 := rfl
@[simp] theorem State.pop_direct16 (q : Queue) (len : Nat) (s : State) : (s.pop q len).direct16 = s.direct16 := rfl
@[simp] theorem State.setPrior_isDecode (a : Nat) (x : Cdf16) (s : State) : (s.setPrior a x).isDecode = s.isDecode := rfl
@[simp] theorem State.setPrior_engineAns2 (a : Nat) (x : Cdf16) (s : State) : (s.setPrior a x).engineAns2 = s.engineAns2 := rfl
@[simp] theorem State.setPrior_direct16 (a : Nat) (x : Cdf16) (s : State) : (s.setPrior a x).direct16 = s.direct16 := rfl
@[simp] theorem State.setMix_isDecode (x : Cdf16) (s : State) : (s.setMix x).isDecode = s.isDecode := rfl
@[simp] theorem State.setMix_engineAns2 (x : Cdf16) (s : State) : (s.setMix x).engineAns2 = s.engineAns2 := rfl
@[simp] theorem State.setMix_direct16 (x : Cdf16) (s : State) : (s.setMix x).direct16 = s.direct16 := rfl
@[simp] theorem State.setCdf2_isDecode (a2 : Nibble) (x : Cdf2) (s : State) : (s.setCdf2 a2 x).isDecode = s.isDecode := rfl
@[simp] theorem State.setCdf2_engineAns2 (a2 : Nibble) (x : Cdf2) (s : State) : (s.setCdf2 a2 x).engineAns2 = s.engineAns2 := rfl
@[simp] theorem State.setCdf2_direct16 (a2 : Nibble) (x : Cdf2) (s : State) : (s.setCdf2 a2 x).direct16 = s.direct16 := rfl
@[simp] theorem State.goto_isDecode (x : Substate) (s : State) : (s.goto x).isDecode = s.isDecode := rfl
@[simp] theorem State.goto_engineAns2 (x : Substate) (s : State) : (s.goto x).engineAns2 = s.engineAns2 := rfl
@[simp] theorem State.goto_direct16 (x : Substate) (s : State) : (s.goto x).direct16 = s.direct16 := rfl
@[simp] theorem State.setCmd_isDecode (f : Command → Command) (s : State) : (s.setCmd f).isDecode = s.isDecode := rfl
@[simp] theorem State.setCmd_engineAns2 (f : Command → Command) (s : State) : (s.setCmd f).engineAns2 = s.engineAns2 := rfl
@[simp] theorem State.setCmd_direct16 (f : Command → Command) (s : State) : (s.setCmd f).direct16 = s.direct16 := rfl
@[simp] theorem State.setCtx_isDecode (f : Context → Context) (s : State) : (s.setCtx f).isDecode = s.isDecode := rfl
@[simp] theorem State.setCtx_engineAns2 (f : Context → Context) (s : State) : (s.setCtx f).engineAns2 = s.engineAns2 := rfl
@[simp] theorem State.setCtx_direct16 (f : Context → Context) (s : State) : (s.setCtx f).direct16 = s.direct16 := rfl
@[simp] theorem State.withCodec_isDecode (x : Substate) (c : Command) (y : Context) (s : State) : (s.withCodec x c y).isDecode = s.isDecode := rfl
@[simp] theorem State.withCodec_engineAns2 (x : Substate) (c : Command) (y : Context) (s : State) : (s.withCodec x c y).engineAns2 = s.engineAns2 := rfl
@[simp] theorem State.withCodec_direct16 (x : Substate) (c : Command) (y : Context) (s : State) : (s.withCodec x c y).direct16 = s.direct16 := rfl
@[simp] theorem State.dequeue_isDecode (rest : List (List Byte)) (s : State) : (s.dequeue rest).isDecode = s.isDecode := rfl
@[simp] theorem State.dequeue_engineAns2 (rest : List (List Byte)) (s : State) : (s.dequeue rest).engineAns2 = s.engineAns2 := rfl
@[simp] theorem State.dequeue_direct16 (rest : List (List Byte)) (s : State) : (s.dequeue rest).direct16 = s.direct16 := rfl

/-! ### `setCell` -/

/-- The two kinds of cell an address can write. -/
theorem State.setCell_cases (a : BitVec 16) (x : Cdf16) (s : State) :
    (a.toNat < Config.numPriors ∧ s.setCell a x = s.setPrior a.toNat x) ∨
      (Config.numPriors ≤ a.toNat ∧ s.setCell a x = s.setMix x) := by
  unfold State.setCell
  split
  · exact .inl ⟨‹_›, rfl⟩
  · exact .inr ⟨Nat.le_of_not_lt ‹_›, rfl⟩

end Sys2Proof.Machine
end

