-- ==== Sys2Proof/Laws/Ops.lean ====
section
/-! SUPPORT. What each shared operation can do, said once. -/

namespace Sys2Proof.Machine

/-! ### Replies -/

/-- A chain ends with a value exactly when both parts do. -/
theorem Reply.bind_eq_ok {α β : Type} {x : Reply α} {k : α → State → Reply β} {b : β} {t : State} :
    x.bind k = .ok b t ↔ ∃ a s, x = .ok a s ∧ k a s = .ok b t := by
  cases x <;> simp [Reply.bind]

/-- A chain suspends where one of its parts does. -/
theorem Reply.bind_eq_wait {α β : Type} {x : Reply α} {k : α → State → Reply β} {w : Wait} {t : State} :
    x.bind k = .wait w t ↔ x = .wait w t ∨ ∃ a s, x = .ok a s ∧ k a s = .wait w t := by
  cases x <;> simp [Reply.bind]

/-- A chain fails where one of its parts does. -/
theorem Reply.bind_eq_fail {α β : Type} {x : Reply α} {k : α → State → Reply β} {t : State} :
    x.bind k = .fail t ↔ x = .fail t ∨ ∃ a s, x = .ok a s ∧ k a s = .fail t := by
  cases x <;> simp [Reply.bind]

/-- A mapped reply ends with a value exactly when the reply does. -/
theorem Reply.map_eq_ok {α β : Type} {x : Reply α} {f : α → β} {b : β} {t : State} :
    x.map f = .ok b t ↔ ∃ a, x = .ok a t ∧ f a = b := by
  cases x <;> simp [Reply.map, Reply.bind]
  exact and_comm

/-- Everything the outcome of an operation can be: success, a suspension or a failure. -/
theorem Reply.outcome_eq_next {x : Reply Returns} {t : State} :
    x.outcome = .next t ↔
      (∃ ret s, x = .ok ret s ∧ t = s.answer .success ret) ∨
        (∃ w s, x = .wait w s ∧ t = s.answer w.result .nothing) ∨ x = .fail t := by
  cases x <;> simp [Reply.outcome, eq_comm]

/-! ### Running an operation -/

/-- In a failed session an operation only answers `Failure`. -/
theorem runOp_failed {legal : Legal} {locking : Bool} {body : State → Reply Returns} {s : State}
    (h : s.ctl.failed = true) : runOp legal locking body s = .next s.refuseFailed := by simp [runOp, h]

/-- Where the operation is not legal it fails and does nothing else. -/
theorem runOp_illegal {legal : Legal} {locking : Bool} {body : State → Reply Returns} {s : State}
    (h : s.ctl.failed = false) (hl : legal.allows s = false) :
    runOp legal locking body s = .next (s.failEntry .protocolViolation) := by simp [runOp, h, hl]

/-- Where the operation is legal it locks, if it is a locking one, and does its body. -/
theorem runOp_legal {legal : Legal} {locking : Bool} {body : State → Reply Returns} {s : State}
    (h : s.ctl.failed = false) (hl : legal.allows s = true) :
    runOp legal locking body s = (body (if locking then s.lock else s)).outcome := by simp [runOp, h, hl]

/-- Everything an operation can do. -/
theorem runOp_cases (legal : Legal) (locking : Bool) (body : State → Reply Returns) (s : State) :
    (s.ctl.failed = true ∧ runOp legal locking body s = .next s.refuseFailed) ∨
      (s.ctl.failed = false ∧ legal.allows s = false ∧
        runOp legal locking body s = .next (s.failEntry .protocolViolation)) ∨
      (s.ctl.failed = false ∧ legal.allows s = true ∧
        runOp legal locking body s = (body (if locking then s.lock else s)).outcome) := by
  cases h : s.ctl.failed
  · cases hl : legal.allows s
    · exact .inr (.inl ⟨rfl, rfl, runOp_illegal h hl⟩)
    · exact .inr (.inr ⟨rfl, rfl, runOp_legal h hl⟩)
  · exact .inl ⟨rfl, runOp_failed h⟩

/-! ### Cells -/

/-- An address has a cell exactly up to that of `MIX`. -/
theorem State.cell?_eq_none (s : State) (a : BitVec 16) : s.cell? a = none ↔ 41887 < a.toNat := by
  simp only [State.cell?, Config.numPriors]
  split
  · simp
    omega
  · split
    · simp
      omega
    · simp
      omega

/-- An operation on an addressed cell. -/
theorem withCell_some {α : Type} {a : BitVec 16} {s : State} {x : Cdf16} {k : Cdf16 → Reply α}
    (h : s.cell? a = some x) : withCell a s k = k x := by simp [withCell, h]

/-- An operation on an address that has no cell fails. -/
theorem withCell_none {α : Type} {a : BitVec 16} {s : State} {k : Cdf16 → Reply α} (h : s.cell? a = none) :
    withCell a s k = raise .protocolViolation s := by simp [withCell, h]

/-! ### Coding one nibble -/

/-- What `CodeNibble` does when it yields a nibble: the coder moved from `s` to `s'`, and the cell there is blended. -/
theorem codeNibble_eq_ok {a : Nat} {speed : BitVec 3} {want v : Nibble} {s t : State} :
    codeNibble a speed want s = .ok v t ↔
      ∃ s', codeAgainst (s.prior a) want s = .ok v s' ∧
        t = s'.setPrior a (blend (s'.prior a) v.toNat speed) := by
  unfold codeNibble
  rw [Reply.bind_eq_ok]
  constructor
  · rintro ⟨v', s', h, h'⟩
    cases h'
    exact ⟨s', h, rfl⟩
  · rintro ⟨s', h, rfl⟩
    exact ⟨v, s', h, rfl⟩

/-- In an encode session the nibble coded is the one wanted. -/
theorem codeAgainst_encode {x : Cdf16} {want v : Nibble} {s t : State} (he : s.isDecode = false)
    (h : codeAgainst x want s = .ok v t) : v = want := by
  simp only [codeAgainst, he, Bool.false_eq_true, if_false, Reply.map_eq_ok] at h
  obtain ⟨_, _, rfl⟩ := h
  rfl

/-! ### Rows -/

/-- A row has its effect where its table is read, and is refused everywhere else. -/
theorem atTable_cases (t : NibbleTable) (body : State → Reply Unit) (s : State) :
    (s.expects = some t ∧ atTable t body s = (body s).rowOutcome) ∨
      (s.expects ≠ some t ∧ atTable t body s = .refused .nibbleOutOfPlace) := by
  by_cases h : s.expects = some t
  · exact .inl ⟨h, by simp [atTable, h]⟩
  · exact .inr ⟨h, by simp [atTable, h]⟩

/-- The stage of a user's substate is the stage and the user. -/
@[simp] theorem IntUser.intStage_at (u : IntUser) (stage : IntStage) :
    (u.at stage).intStage = some (u, stage) := by
  cases u <;> cases stage <;> rfl

/-! ### Searching -/

/-- The index found is at most the bound. -/
theorem leastIndex_le (n : Nat) (p : Nat → Bool) : leastIndex n p ≤ n := by
  unfold leastIndex
  cases h : (List.range n).find? p with
  | none => simp
  | some i =>
    have := List.mem_of_find?_eq_some h
    simp only [List.mem_range] at this
    simp
    omega

/-- An index found below the bound satisfies the predicate. -/
theorem leastIndex_spec {n : Nat} {p : Nat → Bool} (h : leastIndex n p < n) : p (leastIndex n p) = true := by
  unfold leastIndex at h ⊢
  cases hf : (List.range n).find? p with
  | none => simp [hf] at h
  | some i => simpa [hf] using List.find?_some hf

end Sys2Proof.Machine
end

