-- ==== Sys2Proof/Laws/Cdf.lean ====
section
/-! SUPPORT. What scaling and the guarded divisions can do, said once. -/

namespace Sys2Proof.Machine

/-- The last scaled count is the whole scale, in every cell (R217). -/
@[simp] theorem scaled_last (x : Cdf16) : scaled x 15 = 32768 := by
  unfold scaled cdfTotal
  split
  · rfl
  · exact Nat.mul_div_cancel_left _ (by omega)

/-- In a cell with mass a scaled count is the quotient of R217. -/
theorem scaled_of_total_ne_zero {x : Cdf16} (h : cdfTotal x ≠ 0) (s : Nat) :
    scaled x s = cdf x s * 32768 / cdfTotal x := by simp [scaled, h]

/-- Every offset of the scale has a symbol: its scaled count is above the offset, and no lower one is (R219). -/
theorem offsetSym_spec {x : Cdf16} {offset : Nat} (h : offset < 32768) :
    offsetSym x offset ≤ 15 ∧ offset < scaled x (offsetSym x offset) ∧
      ∀ j < offsetSym x offset, scaled x j ≤ offset := by
  refine ⟨leastIndex_le _ _, ?_, ?_⟩
  · rcases Nat.lt_or_eq_of_le (leastIndex_le 15 fun s => decide (offset < scaled x s)) with hl | he
    · simpa [offsetSym] using leastIndex_spec hl
    · simpa [offsetSym, he] using h
  · intro j hj
    unfold offsetSym leastIndex at hj
    cases hf : (List.range 15).find? fun s => decide (offset < scaled x s) with
    | none =>
      rw [hf] at hj
      have := List.find?_eq_none.mp hf j (by simpa using hj)
      simpa using this
    | some i =>
      rw [hf] at hj
      obtain ⟨_, as, bs, hs, hn⟩ := List.find?_eq_some_iff_append.mp hf
      have hlen : as.length = i := by
        have h1 : (List.range 15)[as.length]? = some i := by rw [hs]; simp
        rw [List.getElem?_range (by
          have := congrArg List.length hs
          simp at this
          omega)] at h1
        simpa using h1
      have hm : j ∈ as := by
        have h1 : (List.range 15)[j]? = as[j]? := by
          rw [hs, List.getElem?_append_left (by simpa [hlen] using hj)]
        have h2 : j < 15 := by
          have := congrArg List.length hs
          simp at this hj
          omega
        rw [List.getElem?_range h2] at h1
        exact List.mem_of_getElem? h1.symm
      simpa using hn j hm

/-- A division fails before its zero divisor, and is done with any other (R12). -/
theorem withDivisor_cases {α : Type} (d : Int) (s : State) (k : Reply α) :
    (d = 0 ∧ withDivisor d s k = raise .zeroFrequency s) ∨ (d ≠ 0 ∧ withDivisor d s k = k) := by
  by_cases h : d = 0
  · exact .inl ⟨h, by simp [withDivisor, h]⟩
  · exact .inr ⟨h, by simp [withDivisor, h]⟩

end Sys2Proof.Machine
end

