-- ==== Sys2Proof/Laws/Steps.lean ====
section
/-! SUPPORT. What a refused request can do, and the fields of the states a codec step goes on from. -/

namespace Sys2Proof.Machine

/-- A refused request is an `ENCODE_CMD` with no encoding, or fails inside its operation, or fails as a reserved code
does (R92). -/
theorem refuseRequest_cases (e : DecodeError) (bytes : List Byte) (s : State) :
    (e = .operandOutOfRange ∧ (bytes.head?.getD 0).toNat = 0x03 ∧
      refuseRequest e bytes s = execEncodeCmd (Command.blank 0) s) ∨
    (e = .operandOutOfRange ∧ (bytes.head?.getD 0).toNat ≠ 0x03 ∧
      refuseRequest e bytes s =
        runOp (requestLegal (bytes.head?.getD 0).toNat) (requestLocks (bytes.head?.getD 0).toNat)
          (raise .protocolViolation) s) ∨
    (e ≠ .operandOutOfRange ∧ refuseRequest e bytes s = runOp .always false (raise .protocolViolation) s) := by
  unfold refuseRequest
  by_cases he : e = .operandOutOfRange
  · by_cases ho : (bytes.head?.getD 0).toNat = 0x03
    · exact .inl ⟨he, ho, by rw [if_pos he, if_pos ho]⟩
    · exact .inr (.inl ⟨he, ho, by rw [if_pos he, if_neg ho]⟩)
  · exact .inr (.inr ⟨he, by rw [if_neg he]⟩)

variable (s u : State)

@[simp] theorem State.within_model : (s.within u).model = s.model := rfl
@[simp] theorem State.within_port : (s.within u).port = s.port := rfl
@[simp] theorem State.within_codec : (s.within u).codec = u.codec := rfl
@[simp] theorem State.within_ctx : (s.within u).ctx = u.ctx := rfl
@[simp] theorem State.within_ans1 : (s.within u).ans1 = u.ans1 := rfl
@[simp] theorem State.within_ans2 : (s.within u).ans2 = u.ans2 := rfl
@[simp] theorem State.within_bt : (s.within u).bt = u.bt := rfl
@[simp] theorem State.within_queues : (s.within u).queues = u.queues := rfl
@[simp] theorem State.within_prior (a : Nat) : (s.within u).prior a = s.prior a := rfl

end Sys2Proof.Machine
end

