-- ==== Sys2Proof/Tests/Slice0.lean ====
section
/-! SUPPORT. Tests and witnesses. Expected values are those of the examples in the rules and of 95_test_vectors.md;
the words are written out from R90 and the value tables. The `witness_…` theorems show that the hypotheses of the
statements can be met, clause by clause. -/

namespace Sys2Proof.Tests

set_option Elab.async false

open Sys2Proof Sys2Proof.Machine

/-! ### Helpers -/

/-- The next state of an instruction, if it gives one. -/
def next? (i : Instr) (s : State) : Option State :=
  match exec i s with
  | .next t => some t
  | _ => none

/-- What an instruction answers, if it gives a next state. -/
def answer? (i : Instr) (s : State) : Option Response := (next? i s).map fun t => t.port.response

/-- The state after some operations from reset. -/
def after (is : List Instr) : State := is.foldl (fun s i => (next? i s).getD s) State.reset

/-- Reset, with the configuration `cfg`. -/
def withCfg (cfg : BitVec 8) : State := { State.reset with ctl := { Control.initial with cfg := cfg } }

/-- A decode session on ANS2 with `DIRECT16` whose decoder holds two states. -/
def decoding (a b : BitVec 64) : State :=
  { withCfg 0x07 with ans2 := { Ans2.initial with stateA := a, stateB := b } }

/-- A session of configuration `cfg` inside a command, at a substate. -/
def inside (cfg : BitVec 8) (c : Command) (x : Substate) : State :=
  { withCfg cfg with codec := { top := .inCommand, substate := x, cmd := c } }

/-- Reset, with ANS1 at `r` and `cursor`. -/
def coder (r : BitVec 64) (cursor : BitVec 32) : State :=
  { State.reset with ans1 := { Ans1.initial with r := r, cursor := cursor } }

/-- A cell whose total is the greatest a blend leaves (R211). -/
def fullCell : Cdf16 :=
  #v[4, 8, 12, 16, 20, 24, 28, 32, 36, 40, 44, 48, 52, 56, 60, 32350]

/-- The sixteen nibbles. -/
def nibbles : List Nibble := [0, 1, 2, 3, 4, 5, 6, 7, 8, 9, 10, 11, 12, 13, 14, 15]

/-! ### Well-formedness: each check refuses a term -/

theorem test_wf_refuses_foreign_field_copy :
    (Instr.encodeCmd { Command.blank 1 with wordId := 1 }).wf = false := by decide
theorem test_wf_refuses_foreign_field_dict :
    (Instr.encodeCmd { Command.blank 2 with distance := 1 }).wf = false := by decide
theorem test_wf_refuses_foreign_field_literal :
    (Instr.encodeCmd { Command.blank 3 with pm := 1 }).wf = false := by decide
theorem test_wf_refuses_foreign_field_blockswitch :
    (Instr.encodeCmd { Command.blank 5 with len := 1 }).wf = false := by decide
theorem test_wf_refuses_foreign_field_prediction_mode :
    (Instr.encodeCmd { Command.blank 7 with blockType := 1 }).wf = false := by decide
theorem test_wf_refuses_field_of_no_command :
    (Instr.encodeCmd { Command.blank 9 with distance := 1 }).wf = false := by decide
theorem test_wf_refuses_uncountable_push :
    (Instr.bqPushData .input (List.replicate 4294967296 0)).wf = false := by
  simp only [Instr.wf, countable, List.length_replicate, Nat.lt_irrefl, decide_false]
theorem test_wf_refuses_uncountable_data :
    (Instr.encodeCmd { Command.blank 3 with data := List.replicate 4294967296 0 }).wf = false := by
  simp only [Instr.wf, Command.wf, countable, List.length_replicate, Nat.lt_irrefl, decide_false,
    Bool.and_false, Bool.false_and]
theorem test_wf_refuses_uncountable_literal_map :
    (Instr.encodeCmd { Command.blank 7 with litMap := List.replicate 4294967296 0 }).wf = false := by
  simp only [Instr.wf, Command.wf, countable, List.length_replicate, Nat.lt_irrefl, decide_false,
    Bool.and_false, Bool.false_and]
theorem test_wf_refuses_uncountable_distance_map :
    (Instr.encodeCmd { Command.blank 7 with distMap := List.replicate 4294967296 0 }).wf = false := by
  simp only [Instr.wf, Command.wf, countable, List.length_replicate, Nat.lt_irrefl, decide_false,
    Bool.and_false]
theorem test_wf_takes_each_command :
    ∀ c ∈ [{ Command.blank 1 with distance := 4, numBytes := 1 }, { Command.blank 2 with finalSize := 1 },
      { Command.blank 3 with len := 1, data := [0x41] }, { Command.blank 6 with blockType := 3 },
      { Command.blank 7 with litMap := [1], distMap := [2] }, Command.blank 15, Command.blank 0],
      (Instr.encodeCmd c).wf = true := by decide

/-! ### Decoding: every operation, from its row of R90 -/

theorem test_decode_session :
    decode (.request [0x00]) = .ok .reset ∧
    decode (.request [0x01, 0x86]) = .ok (.setCfg 0x86) ∧
    decode (.request [0x02]) = .ok .getStatus ∧
    decode (.request [0x04]) = .ok .decodeCmd ∧
    decode (.request [0x05]) = .ok .encFinish := by decide
theorem test_decode_commands :
    decode (.request [0x03, 0x01, 4, 0, 0, 0, 2, 1, 0, 0]) =
      .ok (.encodeCmd { Command.blank 1 with distance := 4, numBytes := 258 }) ∧
    decode (.request [0x03, 0x02, 1, 0, 0, 0, 2, 0, 0, 0, 3, 0, 0, 0, 4, 0, 0, 0]) =
      .ok (.encodeCmd { Command.blank 2 with wordId := 1, wordSize := 2, transform := 3, finalSize := 4 }) ∧
    decode (.request [0x03, 0x03, 2, 0, 0, 0, 1, 2, 0, 0, 0, 0x41, 0x62]) =
      .ok (.encodeCmd { Command.blank 3 with len := 2, highEntropy := true, data := [0x41, 0x62] }) ∧
    decode (.request [0x03, 0x05, 0xAB]) = .ok (.encodeCmd { Command.blank 5 with blockType := 0xAB }) ∧
    decode (.request [0x03, 0x07, 1, 4, 5, 2, 0, 0, 0, 7, 8, 1, 0, 0, 0, 9]) =
      .ok (.encodeCmd { Command.blank 7 with
        pm := 1, speedStride := 4, speedCm := 5, litMap := [7, 8], distMap := [9] }) ∧
    decode (.request [0x03, 0x0F]) = .ok (.encodeCmd (Command.blank 15)) := by decide
theorem test_decode_queues :
    decode (.request [0x10, 1]) = .ok (.bqNumPushAvail .output) ∧
    decode (.request [0x11, 0]) = .ok (.bqNumPopAvail .input) ∧
    decode (.request [0x12, 0, 2, 0, 0, 0, 0xAA, 0xBB]) = .ok (.bqPushData .input [0xAA, 0xBB]) ∧
    decode (.request [0x13, 1, 0, 1, 0, 0]) = .ok (.bqPopData .output 256) := by decide
theorem test_decode_ans1 :
    decode (.request [0x20]) = .ok .bEncodeInit ∧
    decode (.request [0x21, 1, 128]) = .ok (.bEncode true 128) ∧
    decode (.request [0x22]) = .ok .bEncodeFlush ∧
    decode (.request [0x23]) = .ok .bDecodeInit ∧
    decode (.request [0x24, 200]) = .ok (.bDecode 200) ∧
    decode (.request [0x25, 1, 2, 3, 4, 5, 6, 7, 8]) = .ok (.bDecodeWillAdvance 0x0807060504030201) ∧
    decode (.request [0x26, 0, 0, 0, 0x80, 0, 0, 0, 0]) = .ok (.bDecodeAdvance 0x80000000) ∧
    decode (.request [0x27, 0, 1]) = .ok (.bChunkPutBit false 1) ∧
    decode (.request [0x28]) = .ok .bChunkFlush ∧
    decode (.request [0x29, 255]) = .ok (.bChunkGetBit 255) ∧
    decode (.request [0x2A, 0x34, 0x12, 0x56]) = .ok (.b1memWrite 0x1234 0x56) ∧
    decode (.request [0x2B, 0xFF, 0xFF]) = .ok (.b1memRead 0xFFFF) := by decide
theorem test_decode_ans2 :
    decode (.request [0x30, 1, 0, 0xFF, 7]) = .ok (.nEncPut 1 2047) ∧
    decode (.request [0x31]) = .ok .nFlushChunk ∧
    decode (.request [0x32]) = .ok .nDecFill ∧
    decode (.request [0x33]) = .ok .nDecGetOffset ∧
    decode (.request [0x34, 0, 0x40, 0, 0x40]) = .ok (.nDecAdvanceSym 16384 16384) ∧
    decode (.request [0x35, 1, 64]) = .ok (.nPutBit true 64) ∧
    decode (.request [0x36, 64]) = .ok (.nGetBit 64) := by decide
theorem test_decode_model :
    decode (.request [0x40, 0x9F, 0xA3, 7]) = .ok (.pCdf 41887 7) ∧
    decode (.request [0x41, 0, 0, 15]) = .ok (.pPdf 0 15) ∧
    decode (.request [0x42, 1, 0]) = .ok (.pMax 1) ∧
    decode (.request [0x43, 2, 0]) = .ok (.pLogMax 2) ∧
    decode (.request [0x44, 3, 0, 10, 7]) = .ok (.pBlend 3 10 7) ∧
    decode (.request [0x45, 1, 0, 2, 0, 0, 0x40]) = .ok (.pAverage 1 2 16384) ∧
    decode (.request [0x46, 0, 16, 5]) = .ok (.pSymToStartFreq 4096 5) ∧
    decode (.request [0x47, 0, 16, 0xFF, 0x7F]) = .ok (.pOffsetToSym 4096 32767) ∧
    decode (.request [0x48, 9, 0]) = .ok (.pValid 9) ∧
    decode (.request [0x49, 2, 1, 4]) = .ok (.p2Blend 2 true 4) ∧
    decode (.request [0x4A, 15]) = .ok (.p2Prob 15) ∧
    decode (.request [0x4B, 3, 0x20, 0x4E]) = .ok (.p2OffsetToSym 3 20000) ∧
    decode (.request [0x4C, 0, 1]) = .ok (.pRead 256) ∧
    decode (.request [0x4D, 5, 0, 4, 0, 8, 0, 12, 0, 16, 0, 20, 0, 24, 0, 28, 0, 32, 0, 36, 0, 40, 0, 44, 0, 48, 0,
      52, 0, 56, 0, 60, 0, 0x5E, 0x7E]) = .ok (.pWrite 5 fullCell) := by decide
theorem test_decode_protocol :
    decode (.request [0x50, 0, 16, 5]) = .ok (.tPutNibble 4096 5) ∧
    decode (.request [0x51, 0, 28]) = .ok (.tGetNibble 7168) ∧
    decode (.request [0x52, 1, 64]) = .ok (.tPutBit true 64) ∧
    decode (.request [0x53, 64]) = .ok (.tGetBit 64) := by decide
theorem test_decode_refuses :
    decode (.request []) = .error .truncated ∧
    decode (.request [0x06]) = .error .reservedOp ∧
    decode (.request [0x4E, 1]) = .error .reservedOp ∧
    decode (.request [0x54]) = .error .reservedOp ∧
    decode (.request [0x21, 1]) = .error .truncated ∧
    decode (.request [0x21, 2, 1]) = .error .operandOutOfRange ∧
    decode (.request [0x40, 0, 0, 16]) = .error .operandOutOfRange ∧
    decode (.request [0x44, 0, 0, 1, 8]) = .error .operandOutOfRange := by decide

/-! ### Decoding: every coded nibble -/

/-- NIBBLE_CMD_TYPE, value 0 to 15. -/
theorem test_decode_cmdType :
    (nibbles.map fun v => decode (.nibble .cmdType v)) = List.map .ok
      [.cmdReserved0, .cmdCopy, .cmdDict, .cmdLiteral, .cmdBlockswitchLiteral, .cmdBlockswitchCommand,
        .cmdBlockswitchDistance, .cmdPredictionMode, .cmdReserved8, .cmdReserved9, .cmdReserved10,
        .cmdReserved11, .cmdReserved12, .cmdReserved13, .cmdReserved14, .cmdEof] := by decide

/-- NIBBLE_SMALL, value 0 to 15. -/
theorem test_decode_small :
    (nibbles.map fun v => decode (.nibble .small v)) = List.map .ok
      [.smallValue0, .smallValue1, .smallValue2, .smallValue3, .smallValue4, .smallValue5, .smallValue6,
        .smallValue7, .smallValue8, .smallValue9, .smallFirst, .smallGreater, .smallRepeat, .smallMantissa,
        .smallReserved14, .smallReserved15] := by decide

/-- NIBBLE_FIRST_COPY, value 0 to 15. -/
theorem test_decode_firstCopy :
    (nibbles.map fun v => decode (.nibble .firstCopy v)) = List.map .ok
      [.firstCopy0, .firstCopy1, .firstCopy2, .firstCopy3, .firstCopy4, .firstCopy5, .firstCopy6, .firstCopy7,
        .firstCopy8, .firstCopy9, .firstCopy10, .firstCopy11, .firstCopy12, .firstCopy13, .firstCopy14,
        .firstCopy15] := by decide

/-- NIBBLE_GREATER_COPY, value 0 to 15. -/
theorem test_decode_greaterCopy :
    (nibbles.map fun v => decode (.nibble .greaterCopy v)) = List.map .ok
      [.greaterCopy0, .greaterCopy1, .greaterCopy2, .greaterCopy3, .greaterCopy4, .greaterCopy5, .greaterCopy6,
        .greaterCopy7, .greaterCopy8, .greaterCopy9, .greaterCopy10, .greaterCopy11, .greaterCopy12,
        .greaterCopy13, .greaterCopy14, .greaterCopy15] := by decide

/-- NIBBLE_FIRST_LITERAL, value 0 to 15. -/
theorem test_decode_firstLit :
    (nibbles.map fun v => decode (.nibble .firstLit v)) = List.map .ok
      [.firstLit0, .firstLit1, .firstLit2, .firstLit3, .firstLit4, .firstLit5, .firstLit6, .firstLit7,
        .firstLit8, .firstLit9, .firstLit10, .firstLit11, .firstLit12, .firstLit13, .firstLit14, .firstLit15] := by decide

/-- NIBBLE_GREATER_LITERAL, value 0 to 15. -/
theorem test_decode_greaterLit :
    (nibbles.map fun v => decode (.nibble .greaterLit v)) = List.map .ok
      [.greaterLit0, .greaterLit1, .greaterLit2, .greaterLit3, .greaterLit4, .greaterLit5, .greaterLit6,
        .greaterLit7, .greaterLit8, .greaterLit9, .greaterLit10, .greaterLit11, .greaterLit12, .greaterLit13,
        .greaterLit14, .greaterLit15] := by decide

/-- NIBBLE_MANTISSA_HEADER, value 0 to 15. -/
theorem test_decode_header :
    (nibbles.map fun v => decode (.nibble .header v)) = List.map .ok
      [.header0, .header1, .header2, .header3, .header4, .header5, .header6, .header7, .header8, .header9,
        .header10, .header11, .header12, .header13, .header14, .header15] := by decide

/-- NIBBLE_DIST_MNEMONIC, value 0 to 15. -/
theorem test_decode_distMnemonic :
    (nibbles.map fun v => decode (.nibble .distMnemonic v)) = List.map .ok
      [.distMnemonic0, .distMnemonic1, .distMnemonic2, .distMnemonic3, .distMnemonic4, .distMnemonic5,
        .distMnemonic6, .distMnemonic7, .distMnemonic8, .distMnemonic9, .distMnemonic10, .distMnemonic11,
        .distMnemonic12, .distMnemonic13, .distMnemonic14, .distEscape] := by decide

/-- NIBBLE_CMAP_ENTRY, value 0 to 15. -/
theorem test_decode_cmapEntry :
    (nibbles.map fun v => decode (.nibble .cmapEntry v)) = List.map .ok
      [.cmapLru0, .cmapLru1, .cmapLru2, .cmapLru3, .cmapLru4, .cmapLru5, .cmapLru6, .cmapLru7, .cmapLru8,
        .cmapLru9, .cmapLru10, .cmapLru11, .cmapLru12, .cmapExplicit, .cmapReserved14, .cmapReserved15] := by decide

/-- NIBBLE_HIGH_ENTROPY, value 0 to 15. -/
theorem test_decode_highEntropy :
    (nibbles.map fun v => decode (.nibble .highEntropy v)) = List.map .ok
      [.he0, .he1, .he2, .he3, .he4, .he5, .he6, .he7, .he8, .he9, .he10, .he11, .he12, .he13, .he14, .he15] := by decide

/-- NIBBLE_PRED_MODE, value 0 to 15. -/
theorem test_decode_predMode :
    (nibbles.map fun v => decode (.nibble .predMode v)) = List.map .ok
      [.pm0, .pm1, .pm2, .pm3, .pm4, .pm5, .pm6, .pm7, .pm8, .pm9, .pm10, .pm11, .pm12, .pm13, .pm14, .pm15] := by decide

/-- NIBBLE_SPEED, value 0 to 15. -/
theorem test_decode_speed :
    (nibbles.map fun v => decode (.nibble .speed v)) = List.map .ok
      [.speed0, .speed1, .speed2, .speed3, .speed4, .speed5, .speed6, .speed7, .speed8, .speed9, .speed10,
        .speed11, .speed12, .speed13, .speed14, .speed15] := by decide

/-! ### One step of each operation -/

theorem test_step_idle : (match step State.reset with | .next t => decide (t = State.reset) | _ => false) = true := by
  decide
theorem test_step_runs_a_request :
    (match step (State.reset.withFetchWord 16 0x0701) with | .next t => some t.ctl.cfg | _ => none) = some 7 := by
  decide
theorem test_step_reserved :
    (match step (State.reset.withFetchWord 8 0x06) with | .next t => some t.ctl.errcode | _ => none) = some 9 := by
  decide

/-- A request `ENCODE_CMD` of a `PredictionMode` with `pm = 5`, which is wider than its two bits. -/
def wideEncode (s : State) : State :=
  { s with port := { s.port with requests := [[0x03, 0x07, 5, 0, 0, 0, 0, 0, 0, 0, 0, 0, 0]] } }
/-- R92, R344: at a command boundary it fails; inside a command the operand is ignored and the command goes on. -/
theorem test_step_wide_operand :
    (match step (wideEncode State.reset) with | .next t => some t.ctl.errcode | _ => none) = some 9 ∧
    (match step (wideEncode (inside 6 (Command.blank 15) .fullyDecoded)) with
      | .next t => some (t.codec.top, t.ctl.result)
      | _ => none) = some (.topEof, .success) := by decide

/-- Log 12: the operand that comes first decides, so the first two are out of width and the third is cut short. -/
theorem test_decode_first_fault :
    decode (.request [0x21, 2]) = .error .operandOutOfRange ∧
    decode (.request [0x03, 0x07, 5]) = .error .operandOutOfRange ∧
    decode (.request [0x21]) = .error .truncated := by decide

/-- R343: after `RESET`, and after `SET_CFG(0x07)`. -/
theorem test_get_status :
    answer? .getStatus State.reset = some ⟨.success, .status 0 0⟩ ∧
    answer? .getStatus (after [.setCfg 0x07]) = some ⟨.success, .status 0x40 0⟩ := by decide
/-- R342: `SET_CFG(0x04)` fails with `IllegalConfiguration`. -/
theorem test_set_cfg_illegal : (next? (.setCfg 0x04) State.reset).map (fun t => t.ctl.errcode) = some 8 := by decide
/-- R340: `RESET` is the way out of a failed session. -/
theorem test_reset : next? .reset (after [.setCfg 0x04]) = some State.reset := by decide
/-- Vector P1: the EOF command buffers the symbol `(30721, 2047)`. -/
theorem test_encode_eof :
    (next? (.encodeCmd (Command.blank 15)) State.reset).map (fun t => (t.ans2.symbuf, t.codec.top)) =
      some ([(0, ⟨30721, 2047⟩)], .topEof) := by decide
/-- Vector S6: `Copy{4, 1}` codes type 1, count 1 and mnemonic 0. -/
theorem test_encode_copy :
    (next? (.encodeCmd { Command.blank 1 with distance := 4, numBytes := 1 }) State.reset).map
      (fun t => (t.ans2.symbuf, t.ctx.distanceLru)) =
        some ([(0, ⟨2049, 2047⟩), (1, ⟨2049, 2047⟩), (2, ⟨1, 2047⟩)], #v[4, 11, 15, 16]) := by decide +kernel
/-- Vector P1, read back: with offset 31233 the command is EOF. -/
theorem test_decode_eof :
    answer? .decodeCmd (decoding 0x801007a01 0x80000000) = some ⟨.success, .command (Command.blank 15)⟩ := by decide
/-- R346: after a flush no symbol is accepted. -/
theorem test_enc_finish :
    (next? .encFinish State.reset).map (fun t => (t.ctl.encFinished, t.queues.outLo)) = some (true, 65536) := by
  decide
/-- Vector Q1. -/
theorem test_queue_counts :
    answer? (.bqNumPushAvail .input) State.reset = some ⟨.success, .avail 65536⟩ ∧
    answer? (.bqNumPopAvail .input) State.reset = some ⟨.success, .avail 0⟩ ∧
    answer? (.bqNumPushAvail .output) State.reset = some ⟨.success, .avail 65536⟩ ∧
    answer? (.bqNumPopAvail .output) State.reset = some ⟨.success, .avail 0⟩ := by decide
/-- The example of R124. -/
theorem test_push_out :
    (next? (.bqPushData .output [0xAA, 0xBB]) State.reset).map (fun t => (t.queues.outMem, t.queues.outLo)) =
      some ([(65534, 0xAA), (65535, 0xBB)], 65534) := by decide
/-- Vector Q5: the ring wraps after slot 65536. -/
theorem test_push_in_wraps :
    (next? (.bqPushData .input [1, 2])
      { State.reset with queues := { Queues.initial with inRd := 65536, inWr := 65536 } }).map
        (fun t => (t.queues.inMem, t.queues.inWr)) = some ([(0, 2), (65536, 1)], 1) := by decide
/-- The example of R125. -/
theorem test_pop_out :
    answer? (.bqPopData .output 1) (after [.bqPushData .output [0xAA, 0xBB]]) =
      some ⟨.success, .popped 1 [0xAA]⟩ := by decide
/-- Vectors A1-1b and A1-1d. -/
theorem test_b_encode :
    (next? (.bEncode true 128) State.reset).map (fun t => t.ans1.r) = some 0x100000080 ∧
    (next? (.bEncode true 1) State.reset).map (fun t => t.ans1.r) = some 0x80808081 := by decide
/-- Vector A1-5, step 4: one word is emitted. -/
theorem test_b_encode_word :
    (next? (.bEncode false 1) (coder 0x80000000000000 65536)).map (fun t => (t.ans1.r, t.ans1.cursor)) =
      some (0x80000000, 65532) := by decide
/-- R142. -/
theorem test_b_encode_init :
    (next? .bEncodeInit (coder 5 9)).map (fun t => (t.ans1.r, t.ans1.cursor)) = some (0x80000000, 65536) := by decide
/-- The example of R143. -/
theorem test_b_encode_flush :
    (next? .bEncodeFlush (coder 0x100000080 65536)).map (fun t => (t.ans1.mem, t.ans1.cursor)) =
      some ([(65531, 1), (65535, 0x80)], 65528) := by decide
/-- The example of R147. -/
theorem test_b_decode_init :
    (next? .bDecodeInit { State.reset with ans1 := { Ans1.initial with mem := [(3, 1), (7, 0x80)] } }).map
      (fun t => (t.ans1.r, t.ans1.cursor)) = some (0x100000080, 8) := by decide
/-- The example of R144. -/
theorem test_b_decode :
    answer? (.bDecode 128) (coder 0x100000080 8) = some ⟨.success, .x1Bit 0x80000000 true⟩ := by decide
/-- The examples of R145. -/
theorem test_b_decode_will_advance :
    answer? (.bDecodeWillAdvance 0x80000000) State.reset = some ⟨.success, .adv false⟩ ∧
    answer? (.bDecodeWillAdvance 0x7FFFFFFF) State.reset = some ⟨.success, .adv true⟩ := by decide
/-- The example of R146. -/
theorem test_b_decode_advance :
    (next? (.bDecodeAdvance 0x00800000)
      { State.reset with ans1 := { Ans1.initial with
        cursor := 8, mem := [(8, 0x12), (9, 0x34), (10, 0x56), (11, 0x78)] } }).map
          (fun t => (t.ans1.r, t.ans1.cursor)) = some (0x0080000012345678, 12) := by decide
/-- R151. -/
theorem test_b_chunk_put_bit :
    (next? (.bChunkPutBit true 128) State.reset).map (fun t => (t.ans1.buf, t.ans1.count)) =
      some ([(0, ⟨true, 128⟩)], 1) := by decide
/-- The example of R153: the chunk `00 08 00 00 00 01 00 00 00 80`. -/
theorem test_b_chunk_flush :
    (next? .bChunkFlush (after [.bChunkPutBit true 128])).map (fun t => t.queues.popBytes .output 65536) =
      some [0, 8, 0, 0, 0, 1, 0, 0, 0, 0x80] := by decide
/-- The example of R154. -/
theorem test_b_chunk_get_bit :
    (next? (.bChunkGetBit 128) (after [.setCfg 0x01, .bqPushData .input [0, 8, 0, 0, 0, 1, 0, 0, 0, 0x80]])).map
      (fun t => (t.port.response, t.ans1.r, t.ans1.cursor)) = some (⟨.success, .bit true⟩, 0x80000000, 8) := by
  decide
/-- R148. -/
theorem test_b1mem :
    (next? (.b1memWrite 0xFFFF 7) State.reset).map (fun t => t.ans1.mem) = some [(65535, 7)] ∧
    answer? (.b1memRead 0xFFFF) (after [.b1memWrite 0xFFFF 7]) = some ⟨.success, .byte 7⟩ := by decide
/-- The example of R171, and `freq = 0`. -/
theorem test_n_enc_put :
    (next? (.nEncPut 0 16384) State.reset).map (fun t => (t.ans2.symbuf, t.ans2.symCount)) =
      some ([(0, ⟨0, 16384⟩)], 1) ∧
    (next? (.nEncPut 0 0) State.reset).map (fun t => t.ctl.errcode) = some 7 := by decide
/-- Vector A2-1c. -/
theorem test_n_flush_chunk :
    (next? .nFlushChunk (after [.nEncPut 1 2047])).map (fun t => (t.queues.popBytes .output 65536, t.ctl.encFinished)) =
      some ([1, 2, 0, 1, 8, 0, 0, 0, 0, 0, 0, 0x80, 0, 0, 0, 0], true) := by decide
/-- The example of R178. -/
theorem test_n_dec_fill :
    (next? .nDecFill
      (after [.setCfg 0x07, .bqPushData .input [0, 0, 0, 0, 1, 0, 0, 0, 0, 0, 0, 0x80, 0, 0, 0, 0]])).map
        (fun t => (t.ans2.stateA, t.ans2.stateB, t.ans2.bootNeed)) = some (0x100000000, 0x80000000, 0) := by decide
/-- Vector A2-6, symbol 1. -/
theorem test_n_dec_get_offset :
    answer? .nDecGetOffset (decoding 0x100000000001 0x80000000) = some ⟨.success, .offset 1⟩ := by decide
/-- The example of R180, and vector A2-6, symbol 0, which needs a pull. -/
theorem test_n_dec_advance_sym :
    (next? (.nDecAdvanceSym 0 16384) (decoding 0x100000000 0x80000000)).map
      (fun t => (t.ans2.stateA, t.ans2.stateB, t.ans2.pullNeed)) = some (0x80000000, 0x80000000, 0) ∧
    (next? (.nDecAdvanceSym 0 1) (decoding 0x100000000000 0x100000000001)).map
      (fun t => (t.ans2.stateA, t.ans2.stateB, t.ans2.pullNeed)) = some (0x100000000001, 0x20000000, 4) := by decide
/-- The example of R183. -/
theorem test_n_put_bit :
    (next? (.nPutBit true 64) State.reset).map (fun t => t.ans2.symbuf) = some [(0, ⟨8192, 24576⟩)] := by decide
/-- The example of R184: offset 9000. -/
theorem test_n_get_bit :
    answer? (.nGetBit 64) (decoding (0x100000000 + 9000) 0x80000000) = some ⟨.success, .bit true⟩ := by decide
/-- The examples of R203 to R206. -/
theorem test_p_lookups :
    answer? (.pCdf 0 7) State.reset = some ⟨.success, .value 32⟩ ∧
    answer? (.pPdf 0 0) State.reset = some ⟨.success, .value 4⟩ ∧
    answer? (.pMax 0) State.reset = some ⟨.success, .value 64⟩ ∧
    answer? (.pLogMax 0) State.reset = some ⟨.success, .logMax false 0⟩ := by decide
/-- R90: address 41888 is no cell's. -/
theorem test_p_bad_address : (next? (.pMax 41888) State.reset).map (fun t => t.ctl.errcode) = some 9 := by decide
/-- The example of R210. -/
theorem test_p_blend :
    (next? (.pBlend 0 3 5) State.reset).map (fun t => t.prior 0) =
      some #v[4, 8, 12, 112, 116, 120, 124, 128, 132, 136, 140, 144, 148, 152, 156, 160] := by decide
/-- Section 2.4 of the vectors: the rescale boundary. -/
theorem test_p_blend_rescales :
    blend #v[4, 8, 12, 16, 20, 24, 28, 32, 36, 40, 44, 48, 52, 56, 60, 32349] 15 0 =
      #v[5, 9, 14, 18, 23, 27, 32, 36, 41, 45, 50, 54, 59, 63, 68, 24288] := by decide
/-- The example of R215, and `w > 32768`. -/
theorem test_p_average :
    (next? (.pAverage 0 1 16384) State.reset).map (fun t => t.model.mix) =
      some #v[2, 4, 6, 8, 10, 12, 14, 16, 18, 20, 22, 24, 26, 28, 30, 32] ∧
    (next? (.pAverage 0 1 32769) State.reset).map (fun t => t.ctl.errcode) = some 9 := by decide
/-- The examples of R218. -/
theorem test_p_sym_to_start_freq :
    answer? (.pSymToStartFreq 0 0) State.reset = some ⟨.success, .startFreq 1 2047⟩ ∧
    answer? (.pSymToStartFreq 0 15) State.reset = some ⟨.success, .startFreq 30721 2047⟩ := by decide
/-- The examples of R219. -/
theorem test_p_offset_to_sym :
    answer? (.pOffsetToSym 0 2048) State.reset = some ⟨.success, .symStartFreq 1 2049 2047⟩ ∧
    answer? (.pOffsetToSym 0 2047) State.reset = some ⟨.success, .symStartFreq 0 1 2047⟩ := by decide +kernel
/-- Section 2.4 of the vectors. -/
theorem test_p_valid_read :
    answer? (.pValid 0) State.reset = some ⟨.success, .ok true⟩ ∧
    answer? (.pRead 41887) State.reset = some ⟨.success, .cell defaultCdf⟩ := by decide
/-- R223: a cell that does not rise strictly is refused. -/
theorem test_p_write :
    (next? (.pWrite 3 fullCell) State.reset).map (fun t => t.prior 3) = some fullCell ∧
    (next? (.pWrite 3 #v[4, 8, 8, 16, 20, 24, 28, 32, 36, 40, 44, 48, 52, 56, 60, 64]) State.reset).map
      (fun t => (t.prior 3, t.ctl.errcode)) = some (defaultCdf, 9) := by decide
/-- The examples of R226 to R228. -/
theorem test_p2 :
    (next? (.p2Blend 2 true 4) State.reset).map (fun t => t.cdf2 2) = some #v[4, 56] ∧
    answer? (.p2Prob 2) (after [.p2Blend 2 true 4]) = some ⟨.success, .prob 18⟩ ∧
    answer? (.p2OffsetToSym 0 20000) State.reset = some ⟨.success, .bitStartFreq true 16385 16383⟩ ∧
    answer? (.p2OffsetToSym 0 16383) State.reset = some ⟨.success, .bitStartFreq false 1 16383⟩ := by decide
/-- The example of R245. -/
theorem test_t_put_nibble :
    (next? (.tPutNibble 0 5) State.reset).map (fun t => t.ans2.symbuf) = some [(0, ⟨10241, 2047⟩)] := by decide
/-- The example of R243: four bits `0, 1, 0, 1`, each at 128. -/
theorem test_t_put_nibble_tree :
    (next? (.tPutNibble 0 5) (withCfg 0x00)).map (fun t => t.ans1.buf) =
      some [(0, ⟨false, 128⟩), (1, ⟨true, 128⟩), (2, ⟨false, 128⟩), (3, ⟨true, 128⟩)] := by decide
/-- The example of R246, and R249: offset 10240 belongs to no symbol. -/
theorem test_t_get_nibble :
    answer? (.tGetNibble 0) (decoding (0x100000000 + 11000) 0x80000000) = some ⟨.success, .nibble 5⟩ ∧
    (next? (.tGetNibble 0) (decoding (0x100000000 + 10240) 0x80000000)).map (fun t => t.ctl.errcode) = some 12 := by
  decide +kernel
/-- R12, R368: `MIX` of total 0 fails with `ZeroFrequency` before the division, in both modes (log 15). -/
theorem test_zero_total :
    ∀ s ∈ [State.reset, withCfg 0x00],
      (next? (.tPutNibble 41887 5) { s with model := { Model.initial with mix := Vector.replicate 16 0 } }).map
        (fun t => t.ctl.errcode) = some 7 := by decide
/-- Log 15: the division comes before the check of `enc_finished`, in both modes. -/
theorem test_zero_total_finished :
    ∀ s ∈ [State.reset, withCfg 0x00],
      (next? (.tPutNibble 41887 5) { s with
        ctl := { s.ctl with encFinished := true }
        model := { Model.initial with mix := Vector.replicate 16 0 } }).map (fun t => t.ctl.errcode) = some 7 := by
  decide
/-- The example of R241, and its inverse. -/
theorem test_t_bits :
    (next? (.tPutBit true 64) State.reset).map (fun t => t.ans2.symbuf) = some [(0, ⟨8192, 24576⟩)] ∧
    answer? (.tGetBit 64) (decoding (0x100000000 + 9000) 0x80000000) = some ⟨.success, .bit true⟩ := by decide

/-! ### One step of the coded nibbles -/

/-- R301. -/
theorem test_cmd_type :
    (next? .cmdLiteral State.reset).map (fun t => (t.ctx.lastCmd, t.codec.top)) = some (3, .inCommand) ∧
    (next? .cmdReserved8 State.reset).map (fun t => t.ctl.errcode) = some 1 := by decide
/-- Section 2.6 of the vectors: Small 12 in a literal-style integer is reserved. -/
theorem test_small :
    (next? .smallValue9 (inside 6 (Command.blank 1) .countSmall)).map (fun t => t.codec.cmd.numBytes) = some 9 ∧
    (next? .smallRepeat (inside 6 (Command.blank 3) .literalCountSmall)).map (fun t => t.ctl.errcode) = some 6 := by
  decide
/-- Section 2.6 of the vectors: copy-style `10, 7` is 17 and `10, 8` is reserved; literal-style `10, 4` is 14. -/
theorem test_first :
    (next? .firstCopy7 (inside 6 (Command.blank 1) .countLengthFirst)).map (fun t => t.codec.cmd.numBytes) =
      some 17 ∧
    (next? .firstCopy8 (inside 6 (Command.blank 1) .countLengthFirst)).map (fun t => t.ctl.errcode) = some 6 ∧
    (next? .firstLit4 (inside 6 (Command.blank 2) (.dictField 0 .first))).map (fun t => t.codec.cmd.wordId) =
      some 14 := by decide
/-- Section 2.6 of the vectors: copy-style `11, 6` and literal-style `11, 9` are 24. -/
theorem test_greater :
    (next? .greaterCopy6 (inside 6 (Command.blank 1) .countLengthGreater18Less25)).map
      (fun t => t.codec.cmd.numBytes) = some 24 ∧
    (next? .greaterLit9 (inside 6 (Command.blank 2) (.dictField 3 .greater))).map
      (fun t => t.codec.cmd.finalSize) = some 24 := by decide
/-- R101: header 7 announces eight nibbles, header 8 is reserved. -/
theorem test_header :
    (next? .header7 (inside 6 (Command.blank 1) .distanceLengthFirst)).map (fun t => t.codec.substate) =
      some (.distanceMantissaNibbles 0 8 0) ∧
    (next? .header8 (inside 6 (Command.blank 1) .countMantissaHeader)).map (fun t => t.ctl.errcode) = some 6 := by
  decide
/-- The examples of R286: with `[4, 11, 15, 16]`, mnemonic 14 is 8. -/
theorem test_distance :
    (next? .distMnemonic14 (inside 6 (Command.blank 1) .distanceLengthMnemonic)).map
      (fun t => (t.codec.cmd.distance, t.ctx.distanceLru)) = some (8, #v[8, 4, 11, 15]) := by decide
/-- R323: the entry comes to the front. -/
theorem test_cmap_entry :
    (next? .cmapLru3 (inside 6 { Command.blank 7 with litMap := [0, 0] } (.mapEntryMnemonic .literal 0))).map
      (fun t => (t.codec.cmd.litMap, t.ctx.cmapLru)) =
        some ([3, 0], #v[3, 0, 1, 2, 4, 5, 6, 7, 8, 9, 10, 11, 12]) := by decide
/-- R304, R320. -/
theorem test_flags :
    (next? .he1 (inside 6 { Command.blank 3 with len := 1 } .literalHighEntropy)).map
      (fun t => t.codec.cmd.highEntropy) = some true ∧
    (next? .pm4 (inside 6 (Command.blank 7) .predMode)).map (fun t => t.ctl.errcode) = some 4 ∧
    (next? .speed7 (inside 6 (Command.blank 7) .predSpeedCm)).map (fun t => t.codec.cmd.speedCm) = some 7 := by
  decide

/-! ### Witnesses: the hypotheses of the statements can be met -/

/-- Reset, with the buffers counting `b` bits and `n` symbols and `OUT` from `outLo` on. -/
def counting (cfg : BitVec 8) (b : BitVec 16) (n : BitVec 32) (outLo : BitVec 17) : State :=
  { withCfg cfg with
    ans1 := { Ans1.initial with count := b }
    ans2 := { Ans2.initial with symCount := n }
    queues := { Queues.initial with outLo := outLo } }

/-- A decode session on ANS1 whose chunk decoder is at `phase`, with bytes waiting in `IN`. -/
def chunk (phase : ChunkPhase) (r : BitVec 64) (cursor : BitVec 32) (len : BitVec 16) (input : List Byte) : State :=
  { withCfg 0x01 with
    ans1 := { Ans1.initial with phase := phase, r := r, cursor := cursor, len := len }
    queues := Queues.initial.push .input input }

/-- A decode session on ANS2 that still needs bytes, with `input` in `IN`. -/
def filling (boot : BitVec 5) (pull : BitVec 3) (a b : BitVec 64) (input : List Byte) : State :=
  { withCfg 0x07 with
    ans2 := { Ans2.initial with stateA := a, stateB := b, bootNeed := boot, pullNeed := pull }
    queues := Queues.initial.push .input input }

/-- A session after a failure. -/
def failed : State := State.reset.failEntry .protocolViolation

/-- Reset, with requests waiting. -/
def waiting (requests : List (List Byte)) : State :=
  { State.reset with port := { Port.initial with requests := requests } }

theorem witness_StepRunsDecodedRequest :
    (waiting []).port.requests = [] ∧
    (waiting [[0x02], [0x00]]).port.requests = [0x02] :: [[0x00]] ∧ decode (.request [0x02]) = .ok .getStatus := by
  decide

theorem witness_ReservedCodeFails :
    (∀ op ∈ ([0x06, 0x0F, 0x14, 0x1F, 0x2C, 0x2F, 0x37, 0x3F, 0x4E, 0x4F, 0x54, 0xFF] : List Byte),
      (waiting [[op]]).port.requests = [op] :: [] ∧ reservedCode op.toNat ∧ (waiting [[op]]).ctl.failed = false) ∧
    failed.ctl.failed = true := by
  unfold reservedCode; decide

theorem witness_DecodeInvertsEncode :
    (Instr.encodeCmd { Command.blank 3 with len := 1, data := [0x41] }).wf = true ∧
    decode (.request [0x03, 0x03, 1, 0, 0, 0, 0, 1, 0, 0, 0, 0x41]) =
      .ok (.encodeCmd { Command.blank 3 with len := 1, data := [0x41] }) := by decide

theorem witness_SetCfgConfigures :
    State.reset.ctl.failed = false ∧ State.reset.ctl.cfgLocked = false ∧
    State.reset.lock.ctl.failed = false ∧ State.reset.lock.ctl.cfgLocked = true ∧
    (0x08 : BitVec 8).getLsbD 3 = true ∧
    ((0x04 : BitVec 8).getLsbD 1 = false ∧ (0x04 : BitVec 8).getLsbD 2 = true) ∧
    ((0xF7 : BitVec 8).getLsbD 3 = false ∧ (0xF7 : BitVec 8).getLsbD 1 = true) ∧
    ((0x00 : BitVec 8).getLsbD 3 = false ∧ (0x00 : BitVec 8).getLsbD 2 = false) := by decide

theorem witness_EncFinishOutcomes :
    (inside 6 (Command.blank 1) .begin).encoding ∧ (inside 6 (Command.blank 1) .begin).codec.top = .inCommand ∧
    ({ State.reset with bt := { BitTree.initial with active := true } } : State).bt.active = true ∧
    State.reset.encoding ∧ State.reset.codec.top ≠ .inCommand ∧ State.reset.bt.active = false ∧
    (if State.reset.engineAns2 then State.reset.ans2.symCount = 0 else State.reset.ans1.count = 0) ∧
    (if (withCfg 0).engineAns2 then (withCfg 0).ans2.symCount = 0 else (withCfg 0).ans1.count = 0) ∧
    (counting 6 0 1 65535).encoding ∧ (counting 6 0 1 65535).queues.outLo.toNat < 65536 ∧
    (if (counting 6 0 1 65535).engineAns2 then (counting 6 0 1 65535).ans2.symCount ≠ 0
      else (counting 6 0 1 65535).ans1.count ≠ 0) ∧
    (counting 0 1 0 65535).encoding ∧
    (if (counting 0 1 0 65535).engineAns2 then (counting 0 1 0 65535).ans2.symCount ≠ 0
      else (counting 0 1 0 65535).ans1.count ≠ 0) := by
  unfold State.encoding; decide
theorem witness_EncFinishOutcomes_flushed :
    ((next? .nFlushChunk (after [.nEncPut 1 2047])).map fun t => t.ctl.result) = some .success ∧
    ((next? .bChunkFlush (after [.setCfg 0, .bChunkPutBit true 128])).map fun t => t.ctl.result) = some .success := by
  decide

theorem witness_FailureIsSticky :
    isOperation .decodeCmd = true ∧ Instr.decodeCmd ≠ .reset ∧ Instr.decodeCmd ≠ .getStatus ∧
    failed.ctl.failed = true := by decide

theorem witness_ModesAndLocking_illegal :
    State.reset.ctl.failed = false ∧ decodeOnly .decodeCmd = true ∧ State.reset.isDecode = false ∧
    (withCfg 7).ctl.failed = false ∧ encodeOnly .encFinish = true ∧ (withCfg 7).isDecode = true := by decide

theorem witness_ModesAndLocking_legal :
    ∀ i ∈ [Instr.reset, .getStatus, .bqNumPushAvail .output, .pMax 41887, .nEncPut 0 1, .pMax 41888],
      isOperation i = true ∧ State.reset.ctl.failed = false ∧
      ¬(encodeOnly i = true ∧ State.reset.isDecode = true) ∧
      ¬(decodeOnly i = true ∧ State.reset.isDecode = false) ∧ (next? i State.reset).isSome = true := by decide

theorem witness_ResultIsLatched :
    isOperation .getStatus = true ∧ (next? .getStatus State.reset).isSome = true ∧
    isOperation (.nEncPut 0 0) = true ∧ (next? (.nEncPut 0 0) State.reset).isSome = true ∧
    Instr.nEncPut 0 0 ≠ .getStatus := by decide

/-- `IN` full and wrapped, `OUT` full. -/
def fullQueues : State :=
  { State.reset with queues := { Queues.initial with inRd := 65536, inWr := 65535, outLo := 0 } }

theorem witness_QueueCountsAndPops_PushDataStores :
    ∀ s ∈ [State.reset, fullQueues], s.ctl.failed = false ∧ s.memoriesCanonical = true ∧
      s.queues.inRd.toNat ≤ 65536 ∧ s.queues.inWr.toNat ≤ 65536 ∧ s.queues.outLo.toNat ≤ 65536 := by decide

theorem witness_QueueOrder :
    ∀ s ∈ [State.reset, fullQueues], Memory.wf 0 s.queues.inMem = true ∧ Memory.wf 0 s.queues.outMem = true ∧
      s.queues.inRd.toNat ≤ 65536 ∧ s.queues.inWr.toNat ≤ 65536 ∧ s.queues.outLo.toNat ≤ 65536 := by decide

theorem witness_BitEncodeResult :
    (∀ s ∈ [coder 0x7FFFFFFFFFFFFF 4, coder 0x80000000000000 3, coder 0x80000000000000 4],
      s.ctl.failed = false ∧ s.memoriesCanonical = true) ∧
    (coder 0x7FFFFFFFFFFFFF 4).ans1.r.toNat < 2 ^ 55 * 1 ∧
    2 ^ 55 * 1 ≤ (coder 0x80000000000000 3).ans1.r.toNat ∧ (coder 0x80000000000000 3).ans1.cursor.toNat < 4 ∧
    4 ≤ (coder 0x80000000000000 4).ans1.cursor.toNat ∧ (1 : Byte) ≠ 0 := by decide

theorem witness_RawCoderAndMemory :
    (coder 1 7).ctl.failed = false ∧ (coder 1 7).memoriesCanonical = true ∧ (coder 1 7).ans1.cursor.toNat < 8 ∧
    (coder 1 8).ctl.failed = false ∧ (coder 1 8).memoriesCanonical = true ∧ 8 ≤ (coder 1 8).ans1.cursor.toNat := by
  decide

theorem witness_BitDecodeResult :
    (coder 1 65532).ctl.failed = false ∧ (255 : Byte) ≠ 0 ∧ 2147483648 ≤ (0x80000000 : BitVec 64).toNat ∧
    (0x7FFFFFFF : BitVec 64).toNat < 2147483648 ∧ (coder 1 65532).ans1.cursor.toNat + 4 ≤ 65536 ∧
    (coder 1 65533).ctl.failed = false ∧ 65536 < (coder 1 65533).ans1.cursor.toNat + 4 := by decide

theorem witness_RawBitRoundTrip :
    ∀ s ∈ [coder 0x80000000 4, coder 0x7FFFFFFFFFFFFFFF 65536],
      s.ctl.failed = false ∧ s.memoriesCanonical = true ∧ (1 : Byte) ≠ 0 ∧ 2147483648 ≤ s.ans1.r.toNat ∧
      s.ans1.r.toNat < 2 ^ 63 ∧ 4 ≤ s.ans1.cursor.toNat ∧ s.ans1.cursor.toNat ≤ 65536 := by decide

theorem witness_ChunkPutBitResult :
    State.reset.encoding ∧ State.reset.memoriesCanonical = true ∧ (1 : Byte) ≠ 0 ∧
    State.reset.ctl.encFinished = false ∧
    (counting 0 16383 0 65536).encoding ∧ (counting 0 16383 0 65536).memoriesCanonical = true ∧
    (counting 0 16383 0 65536).ans1.count.toNat < 16384 ∧
    (counting 0 16384 0 65535).encoding ∧ (counting 0 16384 0 65535).memoriesCanonical = true ∧
    (counting 0 16384 0 65535).ctl.encFinished = false ∧
    (counting 0 16384 0 65535).ans1.count.toNat = 16384 ∧ (counting 0 16384 0 65535).queues.outLo.toNat < 65536 ∧
    (after [.encFinish]).encoding ∧ (after [.encFinish]).ctl.encFinished = true := by
  unfold State.encoding; decide

theorem witness_ChunkFlushResult :
    State.reset.encoding ∧ State.reset.memoriesCanonical = true ∧ State.reset.ans1.count = 0 ∧
    (counting 0 1 0 65535).encoding ∧ (counting 0 1 0 65535).memoriesCanonical = true ∧
    (counting 0 1 0 65535).ans1.count ≠ 0 ∧ (counting 0 1 0 65535).queues.outLo.toNat < 65536 ∧
    (after [.bChunkPutBit true 1]).encoding ∧ (after [.bChunkPutBit true 1]).memoriesCanonical = true ∧
    (after [.bChunkPutBit true 1]).ans1.count ≠ 0 ∧ (after [.bChunkPutBit true 1]).ans1.count.toNat ≤ 16384 ∧
    (after [.bChunkPutBit true 1]).queues.outLo.toNat = 65536 ∧
    ∀ i < (after [.bChunkPutBit true 1]).ans1.count.toNat,
      (Memory.read BitCell.zero (after [.bChunkPutBit true 1]).ans1.buf i).p ≠ 0 := by
  unfold State.encoding; decide

theorem witness_ChunkGetBitResult_waits :
    (chunk .needHdr 0 0 0 [0]).decoding ∧ (255 : Byte) ≠ 0 ∧ (chunk .needHdr 0 0 0 [0]).ans1.phase = .needHdr ∧
    (chunk .needHdr 0 0 0 [0]).queues.popAvail .input < 2 ∧
    (∀ b ∈ ([7, 9, 10, 11] : List Byte), (chunk .needHdr 0 0 0 [0, b]).decoding ∧
      (chunk .needHdr 0 0 0 [0, b]).ans1.phase = .needHdr ∧ 2 ≤ (chunk .needHdr 0 0 0 [0, b]).queues.popAvail .input ∧
      (fromBE ((chunk .needHdr 0 0 0 [0, b]).queues.popBytes .input 2) < 8 ∨
        fromBE ((chunk .needHdr 0 0 0 [0, b]).queues.popBytes .input 2) % 4 ≠ 0)) ∧
    (chunk .needPayload 0 0 8 [1, 2, 3, 4, 5, 6, 7]).decoding ∧
    (chunk .needPayload 0 0 8 [1, 2, 3, 4, 5, 6, 7]).ans1.phase = .needPayload ∧
    (chunk .needPayload 0 0 8 [1, 2, 3, 4, 5, 6, 7]).queues.popAvail .input <
      (chunk .needPayload 0 0 8 [1, 2, 3, 4, 5, 6, 7]).ans1.len.toNat := by
  unfold State.decoding; decide

/-- The three running cases: no word needed, a word needed and missing, a word needed and there. -/
theorem witness_ChunkGetBitResult_runs :
    (∀ s ∈ [chunk .run 0x100000000 8 8 [], chunk .run 0x80000000 8 11 [], chunk .run 0x80000000 8 12 []],
      s.ctl.failed = false ∧ s.isDecode = true ∧ s.memoriesCanonical = true ∧ s.ans1.phase = .run ∧
      ¬(s.ans1.cursor.toNat = s.ans1.len.toNat ∧ s.ans1.r = 0x80000000)) ∧
    (128 : Byte).toNat > 0x100000000 % 256 ∧ 2147483648 ≤ 128 * (0x100000000 / 256) + 0x100000000 % 256 ∧
    (128 : Byte).toNat > 0x80000000 % 256 ∧ 128 * (0x80000000 / 256) + 0x80000000 % 256 < 2147483648 ∧
    (chunk .run 0x80000000 8 11 []).ans1.len.toNat < (chunk .run 0x80000000 8 11 []).ans1.cursor.toNat + 4 ∧
    (chunk .run 0x80000000 8 12 []).ans1.cursor.toNat + 4 ≤ (chunk .run 0x80000000 8 12 []).ans1.len.toNat := by
  decide
/-- A good header, a whole payload, and a chunk that is used up. -/
theorem witness_ChunkGetBitResult_goes_on :
    (∀ s ∈ [chunk .needHdr 0 0 0 [0, 8], chunk .needPayload 0 0 8 [0, 0, 0, 1, 0, 0, 0, 0x80],
        chunk .run 0x80000000 8 8 []],
      s.ctl.failed = false ∧ s.isDecode = true ∧ s.memoriesCanonical = true) ∧
    2 ≤ (chunk .needHdr 0 0 0 [0, 8]).queues.popAvail .input ∧
    fromBE ((chunk .needHdr 0 0 0 [0, 8]).queues.popBytes .input 2) = 8 ∧ 8 % 4 = 0 ∧
    (chunk .needPayload 0 0 8 [0, 0, 0, 1, 0, 0, 0, 0x80]).ans1.len.toNat ≤
      (chunk .needPayload 0 0 8 [0, 0, 0, 1, 0, 0, 0, 0x80]).queues.popAvail .input ∧
    (chunk .run 0x80000000 8 8 []).ans1.cursor.toNat = (chunk .run 0x80000000 8 8 []).ans1.len.toNat ∧
    (chunk .run 0x80000000 8 8 []).ans1.r = 0x80000000 := by decide

theorem witness_SymbolPutResult :
    (∀ s ∈ [State.reset, after [.encFinish], counting 6 0 16383 65536, counting 6 0 16384 65535],
      s.ctl.failed = false ∧ s.isDecode = false ∧ s.memoriesCanonical = true) ∧
    (after [.encFinish]).ctl.encFinished = true ∧ State.reset.ctl.encFinished = false ∧ (1 : BitVec 16) ≠ 0 ∧
    32768 < (32768 : BitVec 16).toNat + (1 : BitVec 16).toNat ∧
    (32767 : BitVec 16).toNat + (1 : BitVec 16).toNat ≤ 32768 ∧
    (counting 6 0 16383 65536).ctl.encFinished = false ∧ (counting 6 0 16383 65536).ans2.symCount.toNat < 16384 ∧
    (counting 6 0 16384 65535).ctl.encFinished = false ∧
    (counting 6 0 16384 65535).ans2.symCount.toNat = 16384 ∧
    (counting 6 0 16384 65535).queues.outLo.toNat < 65536 := by decide
theorem witness_SymbolPutResult_flushed :
    (counting 6 0 16384 65536).encoding ∧ (counting 6 0 16384 65536).memoriesCanonical = true ∧
    (counting 6 0 16384 65536).ctl.encFinished = false ∧
    (counting 6 0 16384 65536).ans2.symCount.toNat = 16384 ∧
    ∃ t, exec .nFlushChunk (counting 6 0 16384 65536) = .next t ∧ t.ctl.result = .success :=
  ⟨⟨by decide, by decide⟩, by decide, by decide, by decide, _, rfl, rfl⟩

theorem witness_SymbolFlushResult :
    (∀ s ∈ [State.reset, counting 6 0 1 65535, after [.nEncPut 32767 1]],
      s.ctl.failed = false ∧ s.isDecode = false ∧ s.memoriesCanonical = true) ∧
    State.reset.ans2.symCount = 0 ∧
    (counting 6 0 1 65535).ans2.symCount ≠ 0 ∧ (counting 6 0 1 65535).queues.outLo.toNat < 65536 ∧
    (after [.nEncPut 32767 1]).ans2.symCount ≠ 0 ∧ (after [.nEncPut 32767 1]).ans2.symCount.toNat ≤ 16384 ∧
    (after [.nEncPut 32767 1]).queues.outLo.toNat = 65536 ∧
    ∀ i < (after [.nEncPut 32767 1]).ans2.symCount.toNat,
      (Memory.read SymCell.zero (after [.nEncPut 32767 1]).ans2.symbuf i).freq ≠ 0 ∧
      (Memory.read SymCell.zero (after [.nEncPut 32767 1]).ans2.symbuf i).start.toNat +
        (Memory.read SymCell.zero (after [.nEncPut 32767 1]).ans2.symbuf i).freq.toNat ≤ 32768 := by decide

/-- Sixteen bytes. -/
def bytes16 : List Byte := [0, 0, 0, 0, 1, 0, 0, 0, 0, 0, 0, 0x80, 0, 0, 0, 0]

theorem witness_DecoderFillResult :
    (∀ s ∈ [filling 0 0 0 0 [], filling 16 0 0 0 bytes16, filling 16 0 0 0 (bytes16.take 15),
        filling 0 4 7 0x7FFFFFFF [1, 2, 3, 4]],
      s.ctl.failed = false ∧ s.isDecode = true ∧ s.queues.inRd.toNat ≤ 65536 ∧ s.queues.inWr.toNat ≤ 65536 ∧
      s.ans2.bootNeed.toNat ≤ 16 ∧ s.ans2.pullNeed.toNat ≤ 4) ∧
    16 ≤ (filling 16 0 0 0 bytes16).queues.popAvail .input ∧ (filling 16 0 0 0 bytes16).ans2.bootNeed = 16 ∧
    (filling 16 0 0 0 bytes16).ans2.pullNeed = 0 ∧ (filling 16 0 0 0 bytes16).ans2.stateA = 0 ∧
    (filling 16 0 0 0 bytes16).ans2.stateB = 0 ∧
    (filling 16 0 0 0 (bytes16.take 15)).queues.popAvail .input < 16 ∧
    4 ≤ (filling 0 4 7 0x7FFFFFFF [1, 2, 3, 4]).queues.popAvail .input ∧
    (filling 0 4 7 0x7FFFFFFF [1, 2, 3, 4]).ans2.pullNeed = 4 ∧
    (filling 0 4 7 0x7FFFFFFF [1, 2, 3, 4]).ans2.pullAcc = 0 ∧
    (filling 0 4 7 0x7FFFFFFF [1, 2, 3, 4]).ans2.stateB.toNat < 2147483648 := by decide
/-- Loads resumed part-way, with all the bytes needed and with too few, and room for more. -/
theorem witness_DecoderFillResult_partway :
    (∀ s ∈ [filling 3 0 5 0x1122 [1, 2, 3], filling 12 0 0xFF 0 [1, 2], filling 0 1 7 0x7FFFFFFF [9],
        filling 0 3 7 1 [1]],
      s.ctl.failed = false ∧ s.isDecode = true ∧ s.queues.inRd.toNat ≤ 65536 ∧ s.queues.inWr.toNat ≤ 65536 ∧
      s.ans2.bootNeed.toNat ≤ 16 ∧ s.ans2.pullNeed.toNat ≤ 4 ∧ 4 ≤ s.queues.pushAvail .input) ∧
    3 ≤ (filling 3 0 5 0x1122 [1, 2, 3]).queues.popAvail .input ∧
    (filling 12 0 0xFF 0 [1, 2]).queues.popAvail .input < 12 ∧
    1 ≤ (filling 0 1 7 0x7FFFFFFF [9]).queues.popAvail .input ∧
    (filling 0 3 7 1 [1]).queues.popAvail .input < 3 := by decide

/-- Reset in a decode session on ANS2, about to count its last symbol of a batch. -/
def lastOfBatch : State :=
  { withCfg 0x07 with ans2 := { Ans2.initial with stateA := 0x100007FFF, symCount := 16383 } }

theorem witness_SymbolAdvanceResult :
    (∀ s ∈ [filling 1 0 0 0 [], filling 0 1 0 0 [], decoding 0x100007FFF 0x80000000, lastOfBatch],
      s.ctl.failed = false ∧ s.isDecode = true) ∧
    (filling 1 0 0 0 []).ans2.bootNeed ≠ 0 ∧ (filling 0 1 0 0 []).ans2.pullNeed ≠ 0 ∧
    (∀ s ∈ [decoding 0x100007FFF 0x80000000, lastOfBatch],
      s.ans2.bootNeed = 0 ∧ s.ans2.pullNeed = 0 ∧ s.ans2.stateA.toNat % 32768 = 32767) ∧
    (32767 : BitVec 16).toNat + (1 : BitVec 16).toNat = 32768 ∧
    (0 : BitVec 16).toNat + (32767 : BitVec 16).toNat ≤ 32767 ∧
    32768 < (32767 : BitVec 16).toNat + (2 : BitVec 16).toNat ∧
    32767 < (32768 : BitVec 16).toNat ∧ (1 : BitVec 16) ≠ 0 ∧ lastOfBatch.ans2.symCount.toNat + 1 = 16384 ∧
    (decoding 0x100007FFF 0x80000000).ans2.symCount.toNat + 1 ≠ 16384 := by decide

theorem witness_BitsAsSymbols :
    State.reset.encoding ∧ State.reset.ctl.encFinished = false ∧ (255 : Byte) ≠ 0 ∧
    (counting 6 0 16383 65536).encoding ∧ (counting 6 0 16383 65536).ctl.encFinished = false ∧
    (counting 6 0 16383 65536).ans2.symCount.toNat < 16384 ∧
    (decoding 0x100000080 0x80000000).decoding ∧ (decoding 0x100000080 0x80000000).ans2.bootNeed = 0 ∧
    (decoding 0x100000080 0x80000000).ans2.pullNeed = 0 ∧
    (true = true ↔ (1 : Byte).toNat * 128 ≤ (decoding 0x100000080 0x80000000).ans2.stateA.toNat % 32768) ∧
    (false = true ↔ (2 : Byte).toNat * 128 ≤ (decoding 0x100000080 0x80000000).ans2.stateA.toNat % 32768) ∧
    (filling 1 0 0 0 []).decoding ∧ (filling 1 0 0 0 []).ans2.bootNeed ≠ 0 ∧
    (filling 1 0 0 0 []).queues.popAvail .input = 0 := by
  unfold State.encoding State.decoding; decide
/-- Bytes are needed: `N_DEC_FILL` finds them, or finds some and waits. -/
theorem witness_BitsAsSymbols_DirectNibbles_fill :
    (∀ s ∈ [filling 16 0 0 0 bytes16, filling 0 4 7 1 [1, 2, 3, 4], filling 16 0 0 0 (bytes16.take 15),
        filling 0 4 7 1 [1, 2]],
      s.ctl.failed = false ∧ s.isDecode = true ∧ s.direct16 = true ∧ s.cell? 41887 = some defaultCdf ∧
      (s.ans2.bootNeed ≠ 0 ∨ s.ans2.pullNeed ≠ 0)) ∧
    (∀ s ∈ [filling 16 0 0 0 bytes16, filling 0 4 7 1 [1, 2, 3, 4]],
      ((next? .nDecFill s).map fun t => t.ctl.result) = some .success) ∧
    ∀ s ∈ [filling 16 0 0 0 (bytes16.take 15), filling 0 4 7 1 [1, 2]],
      ((next? .nDecFill s).map fun t => t.ctl.result) = some .needsMoreInput := by decide

theorem witness_SymbolRoundTrip :
    ∀ p ∈ [(2147483648, 32767, 1), (2 ^ 63 - 1, 0, 32768), (2 ^ 48, 5, 1)],
      2147483648 ≤ p.1 ∧ p.1 < 2 ^ 63 ∧ 1 ≤ p.2.2 ∧ p.2.1 + p.2.2 ≤ 32768 := by decide

/-- Reset, with `MIX` of total 0, in a session of configuration `cfg`. -/
def emptyMix (cfg : BitVec 8) : State :=
  { withCfg cfg with model := { Model.initial with mix := Vector.replicate 16 0 } }

/-- Seven averages of `MIX` with itself empty it, so the state is reached from reset (log 15). -/
theorem witness_emptyMix_reached :
    (after (List.replicate 7 (.pAverage 41887 41887 16384))).model.mix = Vector.replicate 16 0 := by decide +kernel

theorem witness_CellReads :
    State.reset.ctl.failed = false ∧ State.reset.cell? 41886 = some defaultCdf ∧
    State.reset.cell? 41887 = some defaultCdf ∧ 41887 < (41888 : BitVec 16).toNat ∧
    scaledBelow defaultCdf 15 < scaled defaultCdf 15 ∧ scaledBelow defaultCdf 0 < scaled defaultCdf 0 ∧
    32767 < (32768 : BitVec 16).toNat ∧ (32767 : BitVec 16).toNat ≤ 32767 ∧ cdf defaultCdf 15 ≠ 0 ∧
    (emptyMix 6).ctl.failed = false ∧ (emptyMix 6).cell? 41887 = some (Vector.replicate 16 0) := by decide

theorem witness_BlendWritesCell :
    ∀ s ∈ [State.reset, after [.pWrite 41887 fullCell]],
      s.ctl.failed = false ∧ s.memoriesCanonical = true ∧ s.cell? 41886 = some defaultCdf ∧
      s.cell? 41887 = some s.model.mix ∧ validCell s.model.mix = true := by decide

theorem witness_AverageAndWriteResult :
    State.reset.ctl.failed = false ∧ State.reset.memoriesCanonical = true ∧
    State.reset.cell? 0 = some defaultCdf ∧ State.reset.cell? 41887 = some defaultCdf ∧
    32768 < (32769 : BitVec 16).toNat ∧ (32768 : BitVec 16).toNat ≤ 32768 ∧ validCell defaultCdf = true ∧
    validCell #v[4, 8, 8, 16, 20, 24, 28, 32, 36, 40, 44, 48, 52, 56, 60, 64] = false ∧
    41887 < (41888 : BitVec 16).toNat := by decide

theorem witness_Cdf2Operations :
    ∀ s ∈ [State.reset, { State.reset with model := { Model.initial with cdf2s := [(2, #v[32766, 32767])] } },
        { State.reset with model := { Model.initial with cdf2s := [(2, #v[1, 2])] } }],
      s.ctl.failed = false ∧ s.memoriesCanonical = true ∧ validCdf2 (s.cdf2 2) = true ∧
      (32767 < (32768 : BitVec 16).toNat) ∧
      (16383 : BitVec 16).toNat < (s.cdf2 2)[0].toNat * 32768 / (s.cdf2 2)[1].toNat ∧
      (s.cdf2 2)[0].toNat * 32768 / (s.cdf2 2)[1].toNat ≤ (32767 : BitVec 16).toNat := by decide

theorem witness_BlendAndAverageBounds_blend : wideCell defaultCdf ∧ wideCell fullCell := by unfold wideCell; decide

theorem witness_BlendAndAverageBounds_IntervalOwnsOffsets :
    validCell defaultCdf = true ∧ (∀ i < 16, 4 ≤ pdf defaultCdf i) ∧ (∀ i < 16, 2 ≤ pdf defaultCdf i) ∧
    validCell fullCell = true ∧ (∀ i < 16, 4 ≤ pdf fullCell i) ∧ (∀ i < 16, 2 ≤ pdf fullCell i) := by decide

theorem witness_ProtocolBits :
    (∀ s ∈ [counting 6 0 16383 65536, counting 0 16383 0 65536],
      s.ctl.failed = false ∧ s.isDecode = false ∧ s.ctl.encFinished = false ∧
      (if s.engineAns2 then s.ans2.symCount.toNat < 16384 else s.ans1.count.toNat < 16384)) ∧
    (1 : Byte) ≠ 0 ∧ (decoding 0x100000080 0x80000000).decoding ∧
    (decoding 0x100000080 0x80000000).engineAns2 = true ∧ (decoding 0x100000080 0x80000000).ans2.bootNeed = 0 ∧
    (decoding 0x100000080 0x80000000).ans2.pullNeed = 0 := by
  unfold State.decoding; decide

theorem witness_DirectNibbles :
    (∀ s ∈ [State.reset, counting 6 0 16383 65536, decoding 0x100002801 0x80000000,
        decoding 0x100002FFF 0x80000000, decoding 0x100002800 0x80000000, filling 16 0 0 0 []],
      s.direct16 = true ∧ s.ctl.failed = false ∧ s.cell? 41887 = some defaultCdf) ∧
    (counting 6 0 16383 65536).encoding ∧ (counting 6 0 16383 65536).ctl.encFinished = false ∧
    (counting 6 0 16383 65536).ans2.symCount.toNat < 16384 ∧ validCell defaultCdf = true ∧
    (∀ i < 16, 2 ≤ pdf defaultCdf i) ∧
    (∀ s ∈ [decoding 0x100002801 0x80000000, decoding 0x100002FFF 0x80000000],
      s.isDecode = true ∧ s.ans2.bootNeed = 0 ∧ s.ans2.pullNeed = 0 ∧
      (symStart defaultCdf 5).toNat ≤ s.ans2.stateA.toNat % 32768 ∧
      s.ans2.stateA.toNat % 32768 < (symStart defaultCdf 5).toNat + (symFreq defaultCdf 5).toNat) ∧
    (decoding 0x100002800 0x80000000).ans2.stateA.toNat % 32768 = scaledBelow defaultCdf 5 ∧
    (filling 16 0 0 0 []).decoding ∧ (filling 16 0 0 0 []).ans2.bootNeed ≠ 0 ∧
    (filling 16 0 0 0 []).queues.popAvail .input = 0 := by
  unfold State.encoding State.decoding; decide +kernel
theorem witness_DirectNibbles_empty :
    (∀ s ∈ [emptyMix 6, emptyMix 7],
      s.direct16 = true ∧ s.ctl.failed = false ∧ s.cell? 41887 = some (Vector.replicate 16 0)) ∧
    (emptyMix 6).isDecode = false ∧ (emptyMix 7).isDecode = true ∧ (emptyMix 7).ans2.bootNeed = 0 ∧
    (emptyMix 7).ans2.pullNeed = 0 ∧ cdf (Vector.replicate 16 0) 15 = 0 ∧ cdf defaultCdf 15 ≠ 0 := by decide

theorem witness_BitTreeNibbles_whole :
    ∀ s ∈ [counting 0 16380 0 65536, counting 2 0 16380 65536],
      s.ctl.failed = false ∧ s.isDecode = false ∧ s.memoriesCanonical = true ∧ s.direct16 = false ∧
      s.engineAns2 = decide (s.ctl.cfg = 2) ∧ s.cell? 41887 = some defaultCdf ∧ validCell defaultCdf = true ∧
      s.bt.active = false ∧ s.ctl.encFinished = false ∧ s.ans1.count.toNat + 4 ≤ 16384 ∧
      s.ans2.symCount.toNat + 4 ≤ 16384 := by decide

/-- A nibble suspended before its last level, with the symbols 4 and 5 left. -/
def lastLevel : BitTree := { active := true, k := 0, loSym := 4, lo := 16, hi := 24, nib := 4 }

/-- A level of a put at each end of the tree, from the start and resumed, that gives its bit or waits. -/
theorem witness_BitTreeNibbles_put_level :
    (∀ s ∈ [withCfg 0, withCfg 2, { withCfg 0 with bt := lastLevel }, counting 0 16384 0 65535, emptyMix 0],
      s.ctl.failed = false ∧ s.isDecode = false ∧ s.direct16 = false) ∧
    ((withCfg 0).bt.begun defaultCdf).k.toNat = 3 ∧ (lastLevel.begun defaultCdf).k.toNat = 0 ∧
    (∀ b ∈ [(withCfg 0).bt.begun defaultCdf, lastLevel],
      b.lo.toNat < b.hi.toNat ∧ b.lo.toNat ≤ b.cut defaultCdf ∧
      ∀ p ∈ [(withCfg 0, Result.success), (withCfg 2, .success), (counting 0 16384 0 65535, .needsMoreOutput)],
        ((next? (.tPutBit true (b.share defaultCdf)) { p.1 with bt := b }).map fun u => u.ctl.result) =
          some p.2) ∧
    (emptyMix 0).cell? 41887 = some (Vector.replicate 16 0) ∧
    ((emptyMix 0).bt.begun (Vector.replicate 16 0)).hi = ((emptyMix 0).bt.begun (Vector.replicate 16 0)).lo := by
  decide +kernel
/-- The same of a get. -/
theorem witness_BitTreeNibbles_get_level :
    (∀ s ∈ [chunk .run 0x100000000 8 8 [], chunk .needHdr 0 0 0 [0], emptyMix 1],
      s.ctl.failed = false ∧ s.isDecode = true ∧ s.direct16 = false) ∧
    (∀ b ∈ [(withCfg 1).bt.begun defaultCdf, lastLevel],
      b.lo.toNat < b.hi.toNat ∧ b.lo.toNat ≤ b.cut defaultCdf ∧
      ∀ p ∈ [(chunk .run 0x100000000 8 8 [], Result.success), (chunk .needHdr 0 0 0 [0], .needsMoreInput)],
        ((next? (.tGetBit (b.share defaultCdf)) { p.1 with bt := b }).map fun u => u.ctl.result) = some p.2) ∧
    (emptyMix 1).cell? 41887 = some (Vector.replicate 16 0) ∧
    ((emptyMix 1).bt.begun (Vector.replicate 16 0)).hi = ((emptyMix 1).bt.begun (Vector.replicate 16 0)).lo := by
  decide +kernel

theorem witness_CommandTypeRows :
    State.reset.expects = some .cmdType ∧ (withCfg 7).expects = some .cmdType := by decide

/-- The eight users of a tiered integer, with a command of their kind. -/
def userStates : List (IntUser × Command) :=
  [(.copyCount, Command.blank 1), (.literalLen, Command.blank 3), (.dictField 0, Command.blank 2),
    (.dictField 1, Command.blank 2), (.dictField 2, Command.blank 2), (.dictField 3, Command.blank 2),
    (.mapCount .literal, Command.blank 7), (.mapCount .distance, Command.blank 7)]

theorem witness_SmallRows :
    ∀ p ∈ userStates, (inside 6 p.2 (p.1.at .small)).expects = some .small ∧
      (inside 6 p.2 (p.1.at .small)).codec.substate = p.1.at .small := by decide

theorem witness_LaterStageRows_first_greater :
    (inside 6 (Command.blank 1) .countLengthFirst).expects = some .firstCopy ∧
    (inside 6 (Command.blank 1) .countLengthGreater18Less25).expects = some .greaterCopy ∧
    ∀ p ∈ userStates.drop 1,
      (inside 6 p.2 (p.1.at .first)).expects = some .firstLit ∧
      (inside 6 p.2 (p.1.at .first)).codec.substate = p.1.at .first ∧
      (inside 6 p.2 (p.1.at .greater)).expects = some .greaterLit ∧
      (inside 6 p.2 (p.1.at .greater)).codec.substate = p.1.at .greater := by decide

theorem witness_LaterStageRows_header :
    (inside 6 (Command.blank 1) .distanceLengthFirst).expects = some .header ∧
    (inside 6 (Command.blank 1) .distanceLengthFirst).codec.substate = .distanceLengthFirst ∧
    (∀ p ∈ userStates, (inside 6 p.2 (p.1.at .mantissaHeader)).expects = some .header ∧
      (inside 6 p.2 (p.1.at .mantissaHeader)).codec.substate = p.1.at .mantissaHeader) ∧
    7 < (8 : Nibble).toNat ∧ (7 : Nibble).toNat ≤ 7 := by decide

/-- A Copy at its distance mnemonic, with the most recent distance `d`. -/
def atMnemonic (d : BitVec 32) : State :=
  { inside 6 (Command.blank 1) .distanceLengthMnemonic with
    ctx := { Context.initial with distanceLru := #v[d, 11, 15, 16] } }

theorem witness_DistanceRows :
    (∀ s ∈ [atMnemonic 2, atMnemonic 1, atMnemonic 0xFFFFFFFF], s.expects = some .distMnemonic) ∧
    ((atMnemonic 2).ctx.distanceLru[0].toNat : Int) - 1 = ((1 : BitVec 32).toNat : Int) ∧
    ((atMnemonic 1).ctx.distanceLru[0].toNat : Int) - 1 < 1 ∧
    ((atMnemonic 0xFFFFFFFF).ctx.distanceLru[0].toNat : Int) = ((0xFFFFFFFF : BitVec 32).toNat : Int) ∧
    4294967295 < ((atMnemonic 0xFFFFFFFF).ctx.distanceLru[0].toNat : Int) + 1 := by decide

theorem witness_TouchMovesToFront :
    (#v[4, 11, 15, 16] : Vector (BitVec 32) 4)[(3 : Fin 4)] = 16 ∧
    (∀ i : Fin 4, i < 3 → (#v[4, 11, 15, 16] : Vector (BitVec 32) 4)[i] ≠ 16) ∧
    (∀ i : Fin 4, (#v[4, 11, 15, 16] : Vector (BitVec 32) 4)[i] ≠ 5) ∧
    Context.initial.cmapLru[(12 : Fin 13)] = 12 ∧ (∀ i : Fin 13, i < 12 → Context.initial.cmapLru[i] ≠ 12) ∧
    ∀ i : Fin 13, Context.initial.cmapLru[i] ≠ 13 := by decide

/-- A prediction-mode command at entry `j` of a map. -/
def atEntry (mi : MapId) (j : Nat) : State :=
  inside 6 { Command.blank 7 with litMap := [0, 0], distMap := [0, 0] } (.mapEntryMnemonic mi j)

theorem witness_MapEntryRows :
    (∀ mi ∈ [MapId.literal, .distance], ∀ j ∈ [0, 1],
      (atEntry mi j).expects = some .cmapEntry ∧ (atEntry mi j).codec.substate = .mapEntryMnemonic mi j ∧
      (atEntry mi j).memoriesCanonical = true ∧
      (0 + 1 < (commandMap (atEntry mi j).codec.cmd mi).length) ∧
      (commandMap (atEntry mi j).codec.cmd mi).length ≤ 1 + 1) ∧ (12 : Nibble).toNat ≤ 12 := by decide

theorem witness_SingleFieldRows :
    (inside 6 (Command.blank 3) .literalHighEntropy).expects = some .highEntropy ∧
    (inside 6 (Command.blank 7) .predMode).expects = some .predMode ∧
    (inside 6 (Command.blank 7) .predSpeedStride).expects = some .speed ∧
    (inside 6 (Command.blank 7) .predSpeedCm).expects = some .speed := by decide

theorem witness_RowFrame :
    (next? (decodeNibble .cmdType 1) State.reset).isSome = true ∧ State.reset.expects ≠ some .small := by decide

/-- The state of a decode session whose offset is the one with index `k` of the interval of `v` under `x`. -/
def poised (x : Cdf16) (v : Nibble) (k : Nat) (s : State) : State :=
  { s with
    ctl := { s.ctl with cfg := 0x07 }
    ans2 := { s.ans2 with stateA := BitVec.ofNat 64 (2 ^ 32 + (symStart x v.toNat).toNat + k) } }

/-- How coding the nibble 5 against a cell ends. -/
def codingEnds (x : Cdf16) (s : State) : Option Result :=
  match s.nibbleOp x 5 with
  | .next u => some u.ctl.result
  | _ => none

/-- The nibble operation of a codec step completes, waits and fails, in each of the three configurations. -/
theorem witness_codesNibble_encode :
    (∀ s ∈ [withCfg 0, withCfg 2, withCfg 6], s.ctl.failed = false ∧ codingEnds defaultCdf s = some .success ∧
      codingEnds (Vector.replicate 16 0) s = some .failure) ∧
    ∀ s ∈ [counting 0 16384 0 65535, counting 2 0 16384 65535, counting 6 0 16384 65535],
      s.ctl.failed = false ∧ codingEnds defaultCdf s = some .needsMoreOutput := by decide +kernel
theorem witness_codesNibble_decode :
    (∀ s ∈ [chunk .run 0x4000000000000000 8 8 [],
        { withCfg 3 with ans2 := { Ans2.initial with stateA := 0x4000000000000000, stateB := 0x4000000000000000 } },
        decoding 0x100002801 0x80000000],
      s.ctl.failed = false ∧ codingEnds defaultCdf s = some .success) ∧
    (∀ s ∈ [chunk .needHdr 0 0 0 [0], { filling 16 0 0 0 bytes16.tail with ctl := { Control.initial with cfg := 3 } },
        filling 0 4 0 1 [1]],
      s.ctl.failed = false ∧ codingEnds defaultCdf s = some .needsMoreInput) ∧
    ∀ s ∈ [chunk .needHdr 0 0 0 [0, 9], decoding 0x100002800 0x80000000],
      s.ctl.failed = false ∧ codingEnds defaultCdf s = some .failure := by decide +kernel

theorem witness_MantissaAndEntryNibbleSteps_encode :
    ∀ p ∈ userStates, ∀ ld ∈ [0, 7],
      let s := inside 6 p.2 (p.1.at (.mantissaNibbles (BitVec.ofNat 4 ld) (BitVec.ofNat 4 (8 - ld)) 0))
      s.memoriesCanonical = true ∧ s.codec.top = .inCommand ∧ s.prior (p.1.cells s + 4 + ld) = defaultCdf ∧
      1 ≤ (BitVec.ofNat 4 (8 - ld)).toNat ∧ (BitVec.ofNat 4 ld).toNat + (BitVec.ofNat 4 (8 - ld)).toNat ≤ 8 ∧
      s.canCode defaultCdf 0 0 := by
  unfold State.canCode; decide
theorem witness_MantissaAndEntryNibbleSteps_decode :
    ∀ p ∈ userStates, ∀ k ∈ [0, 2046],
      let s := poised defaultCdf 9 k (inside 7 p.2 (p.1.at (.mantissaNibbles 0 1 0)))
      s.memoriesCanonical = true ∧ s.codec.top = .inCommand ∧
      s.codec.substate = p.1.at (.mantissaNibbles 0 1 0) ∧ s.canCode defaultCdf 0 9 := by
  unfold State.canCode; decide +kernel
theorem witness_MantissaAndEntryNibbleSteps_value :
    4294967295 < 2 ^ 32 ∧ nibbleCount 4294967295 = 8 ∧ nibbleCount 0 = 1 ∧ nibbleCount 16 = 2 := by decide

/-- A Copy of distance `d` at a mantissa nibble of its distance. -/
def atDistance (d : BitVec 32) (ld lr : BitVec 4) (dsf : BitVec 32) : State :=
  inside 6 { Command.blank 1 with distance := d } (.distanceMantissaNibbles ld lr dsf)

theorem witness_MantissaAndEntryNibbleSteps_distance :
    ∀ p ∈ [(atDistance 0x90000000 0 8 0, (9 : Nibble)), (atDistance 0x12 1 1 0x10, 2), (atDistance 0 0 1 0, 0)],
      p.1.memoriesCanonical = true ∧ p.1.codec.top = .inCommand ∧ p.1.distSlot? = some 0 ∧
      p.1.prior 7170 = defaultCdf ∧ p.1.prior 7171 = defaultCdf ∧ p.1.canCode defaultCdf p.2 p.2 := by
  unfold State.canCode; decide +kernel

/-- A decoded context-map count that reaches 16385 with its last nibble. -/
def overCapacity : State :=
  poised defaultCdf 1 0 (inside 7 (Command.blank 7) (.mapCount .literal (.mantissaNibbles 3 1 0x4000)))

theorem witness_MantissaAndEntryNibbleSteps_capacity :
    overCapacity.memoriesCanonical = true ∧ overCapacity.codec.top = .inCommand ∧
    overCapacity.codec.substate = (IntUser.mapCount .literal).at (.mantissaNibbles 3 1 0x4000) ∧
    overCapacity.prior ((IntUser.mapCount .literal).cells overCapacity + 4 + 3) = defaultCdf ∧
    overCapacity.canCode defaultCdf 1 1 ∧
    16384 < ((0x4000 : BitVec 32) ||| ((1 : Nibble).setWidth 32 <<< 0)).toNat := by
  unfold State.canCode; decide +kernel

/-- A prediction-mode command at a nibble of its first map entry, C8H, of each map. -/
def atEntryNibble (x : Substate) : State :=
  inside 6 { Command.blank 7 with litMap := [0xC8, 0], distMap := [0xC8] } x

theorem witness_MantissaAndEntryNibbleSteps_entry :
    (∀ p ∈ [(atEntryNibble (.mapEntryHigh .literal 0), 41852, (12 : Nibble)),
        (atEntryNibble (.mapEntryLow .literal 0), 41865, 8), (atEntryNibble (.mapEntryHigh .distance 0), 41870, 12),
        (atEntryNibble (.mapEntryLow .distance 0), 41883, 8),
        (poised defaultCdf 8 2046 (atEntryNibble (.mapEntryLow .distance 0)), 41883, 8)],
      p.1.memoriesCanonical = true ∧ p.1.codec.top = .inCommand ∧ p.1.prior p.2.1 = defaultCdf ∧
      p.1.canCode defaultCdf p.2.2 p.2.2) ∧
    0 + 1 < (commandMap (atEntryNibble (.mapEntryLow .literal 0)).codec.cmd .literal).length ∧
    (commandMap (atEntryNibble (.mapEntryLow .distance 0)).codec.cmd .distance).length ≤ 0 + 1 := by
  unfold State.canCode; decide +kernel

/-- A literal of one byte 41H at one of its nibbles. -/
def atLiteral (he : Bool) (idx : BitVec 33) : State :=
  inside 6 { Command.blank 3 with len := 1, highEntropy := he, data := [0x41] } (.literalNibbleIndex idx)

/-- A mixed literal nibble with a map of `n` entries, under literal block type 1. -/
def atMappedLiteral (n : BitVec 15) : State :=
  { atLiteral false 1 with ctx := { Context.initial with litCmapLen := n, litCmap := [(64, 255)], btypeLit := 1 } }

theorem witness_LiteralNibbleStep :
    (∀ s ∈ [atLiteral false 0, atLiteral true 0],
      s.memoriesCanonical = true ∧ s.codec.top = .inCommand ∧ s.codec.substate = .literalNibbleIndex 0) ∧
    (∀ s ∈ [atLiteral false 1, atLiteral true 1, atMappedLiteral 64, atMappedLiteral 65],
      s.ctl.failed = false ∧ s.memoriesCanonical = true ∧ s.codec.top = .inCommand ∧
      s.codec.substate = .literalNibbleIndex 1 ∧ (1 : BitVec 33).toNat < 2 * s.codec.cmd.len.toNat) ∧
    (atMappedLiteral 64).ctx.litCmapLen = 64 ∧ (atMappedLiteral 65).ctx.litCmapLen = 65 ∧
    (64 : BitVec 15).toNat ≤ (1 * 64) ||| 0 ∧ (1 * 64) ||| 0 < (65 : BitVec 15).toNat ∧
    (atMappedLiteral 65).ctx.btypeLit.toNat = 1 ∧ (atMappedLiteral 65).ctx.predMode = 0 := by decide +kernel
/-- The average of two default cells. -/
def evenMix : Cdf16 := average defaultCdf defaultCdf 16384

theorem witness_LiteralNibbleStep_cells :
    (∀ a ∈ [13056, 13056 + 16 + 4, 21248, 21248 + 16 + 4, 21248 + 511 * 16 + 4],
      (atLiteral false 0).prior a = defaultCdf ∧ (atMappedLiteral 65).prior a = defaultCdf) ∧
    (atLiteral false 0).ctx.weights[16 + 4].toNat = 16384 := by decide +kernel
theorem witness_LiteralNibbleStep_coding :
    ∀ p ∈ [(atLiteral false 0, evenMix, (4 : Nibble), (4 : Nibble)), (atLiteral false 1, evenMix, 1, 1),
        (atMappedLiteral 65, evenMix, 1, 1), (atLiteral true 0, defaultCdf, 4, 4),
        (poised evenMix 15 2046 (atLiteral false 1), evenMix, 1, 15),
        (poised defaultCdf 15 0 (atLiteral true 0), defaultCdf, 4, 15)],
      p.1.canCode p.2.1 p.2.2.1 p.2.2.2 := by
  unfold State.canCode; decide +kernel

/-- A block switch to 21H at a substate. -/
def atBlock (k : Nibble) (x : Substate) : State := inside 6 { Command.blank k with blockType := 0x21 } x

theorem witness_BlockSwitchSteps :
    (∀ s ∈ [atBlock 4 .blockTypeHigh, atBlock 5 .blockTypeLow, atBlock 6 .blockTypeHigh],
      s.memoriesCanonical = true ∧ s.codec.top = .inCommand ∧ (4 ≤ s.codec.cmd.kind.toNat ∧ s.codec.cmd.kind.toNat ≤ 6) ∧
      s.prior 41728 = defaultCdf ∧ s.prior (41728 + 18) = defaultCdf) ∧
    (atBlock 4 .blockTypeHigh).codec.substate = .blockTypeHigh ∧ (atBlock 5 .blockTypeLow).codec.substate = .blockTypeLow := by
  decide +kernel
theorem witness_BlockSwitchSteps_coding :
    ∀ p ∈ [(atBlock 4 .blockTypeHigh, (2 : Nibble), (2 : Nibble)), (atBlock 5 .blockTypeLow, 1, 1),
        (poised defaultCdf 15 2046 (atBlock 6 .blockTypeHigh), 2, 15)],
      p.1.canCode defaultCdf p.2.1 p.2.2 := by
  unfold State.canCode; decide +kernel

theorem witness_CommandValidation :
    (∀ s ∈ [after [.encFinish], after [.encodeCmd (Command.blank 15)], State.reset],
      s.ctl.failed = false ∧ s.isDecode = false) ∧
    (after [.encFinish]).ctl.encFinished = true ∧ (after [.encodeCmd (Command.blank 15)]).codec.top = .topEof ∧
    ({ withCfg 7 with codec := { Codec.initial with top := .topEof } } : State).decoding ∧
    State.reset.ctl.encFinished = false ∧ State.reset.codec.top = .topBegin ∧
    (Command.blank 0).kind ∉ ([1, 2, 3, 4, 5, 6, 7, 15] : List Nibble) ∧ (Command.blank 1).distance = 0 ∧
    ({ Command.blank 3 with len := 1 } : Command).data.length ≠ 1 := by
  unfold State.decoding; decide
theorem witness_CommandValidation_maps :
    16384 < ({ Command.blank 7 with litMap := List.replicate 16385 0 } : Command).litMap.length ∧
    1024 < ({ Command.blank 7 with distMap := List.replicate 1025 0 } : Command).distMap.length := by
  simp only [List.length_replicate]; decide

theorem witness_EofCommand :
    (∀ s ∈ [State.reset, counting 6 0 16383 65536, decoding 0x801007a01 0x80000000],
      s.direct16 = true ∧ s.codec.top = .topBegin ∧ validCell (s.prior 0) = true ∧ ∀ i < 16, 2 ≤ pdf (s.prior 0) i) ∧
    (counting 6 0 16383 65536).encoding ∧ (counting 6 0 16383 65536).ctl.encFinished = false ∧
    (counting 6 0 16383 65536).ans2.symCount.toNat < 16384 ∧
    (decoding 0x801007a01 0x80000000).decoding ∧ (decoding 0x801007a01 0x80000000).ans2.bootNeed = 0 ∧
    (decoding 0x801007a01 0x80000000).ans2.pullNeed = 0 ∧
    (symStart ((decoding 0x801007a01 0x80000000).prior 0) 15).toNat ≤ 0x801007a01 % 32768 ∧
    0x801007a01 % 32768 < (symStart ((decoding 0x801007a01 0x80000000).prior 0) 15).toNat +
      (symFreq ((decoding 0x801007a01 0x80000000).prior 0) 15).toNat := by
  unfold State.encoding State.decoding; decide +kernel

/-- States whose codec step reads a value table, with the cell, the speed and the nibble an encoder chooses, from
R264 to R267, R281, R287, R301, R304, R320 and R322. -/
def tableStates : List (State × Nat × BitVec 3 × Nibble) :=
  let copy := fun (n d : BitVec 32) x => inside 6 { Command.blank 1 with numBytes := n, distance := d } x
  let pred := fun x =>
    inside 6 { Command.blank 7 with pm := 2, speedStride := 5, speedCm := 7, litMap := [3], distMap := [200] } x
  [({ State.reset with codec := { Codec.initial with cmd := Command.blank 7 } }, 0, 5, 7),
    (copy 9 4 .countSmall, 4096, 5, 9), (copy 17 4 .countSmall, 4096, 5, 10), (copy 18 4 .countSmall, 4096, 5, 11),
    (copy 25 4 .countSmall, 4096, 5, 13),
    ({ copy 1 4 .countSmall with ctl := { Control.initial with cfg := 0x16 } }, 4096, 5, 12),
    (copy 17 4 .countLengthFirst, 4097, 5, 7), (copy 24 4 .countLengthGreater18Less25, 4098, 5, 6),
    (copy 25 4 .countMantissaHeader, 4099, 4, 1), (copy 0 8 .distanceLengthMnemonic, 7168, 5, 14),
    (copy 0 100 .distanceLengthMnemonic, 7168, 5, 15), (copy 0 0xFFFFFFFF .distanceLengthFirst, 7169, 4, 7),
    (inside 6 { Command.blank 3 with len := 15 } .literalCountSmall, 9728, 5, 11),
    (inside 6 { Command.blank 2 with finalSize := 14 } (.dictField 3 .first), 29477, 5, 4),
    (inside 6 { Command.blank 3 with highEntropy := true } .literalHighEntropy, 12800, 4, 1),
    (pred .predMode, 41824, 4, 2), (pred .predSpeedStride, 41825, 4, 5), (pred .predSpeedCm, 41826, 4, 7),
    (pred (.mapCount .distance .small), 41839, 5, 1), (pred (.mapEntryMnemonic .literal 0), 41851, 5, 3),
    (pred (.mapEntryMnemonic .distance 0), 41869, 5, 13)]

theorem witness_TableStepsAndRecentCopy_tables :
    ∀ p ∈ tableStates, p.1.memoriesCanonical = true ∧
      (p.1.tableNibble.map fun n => (n.cell, n.speed, n.want)) = some p.2 := by decide +kernel
theorem witness_TableStepsAndRecentCopy_coding :
    ∀ p ∈ tableStates, p.1.prior p.2.1 = defaultCdf ∧ p.1.canCode defaultCdf p.2.2.2 p.2.2.2 := by
  unfold State.canCode; decide +kernel
theorem witness_TableStepsAndRecentCopy_begin :
    ∀ k ∈ ([1, 2, 3, 4, 5, 6, 7, 15] : List Nibble),
      (inside 6 (Command.blank k) .begin).codec.top = .inCommand ∧
      (inside 6 (Command.blank k) .begin).codec.substate = .begin := by decide

/-- A Copy whose distance context is beyond a map of four entries. -/
def beyondMap (x : Substate) : State :=
  { inside 6 (Command.blank 1) x with ctx := { Context.initial with distCmapLen := 4, btypeDist := 1 } }

theorem witness_TableStepsAndRecentCopy_slot :
    (inside 6 (Command.blank 1) .countDecoded).distSlot? = some 0 ∧
    ∀ x ∈ [Substate.countDecoded, .distanceLengthMnemonic, .distanceLengthFirst, .distanceMantissaNibbles 0 1 0],
      (beyondMap x).codec.top = .inCommand ∧ (beyondMap x).distSlot? = none := by decide

theorem witness_TableStepsAndRecentCopy_copy :
    (counting 6 0 16381 65536).encoding ∧ (counting 6 0 16381 65536).memoriesCanonical = true ∧
    (counting 6 0 16381 65536).direct16 = true ∧ (counting 6 0 16381 65536).ctl.encFinished = false ∧
    (counting 6 0 16381 65536).codec.top = .topBegin ∧ (counting 6 0 16381 65536).ctl.cfg.getLsbD 4 = false ∧
    (9 : BitVec 32).toNat ≤ 9 ∧ (counting 6 0 16381 65536).ctx.distanceLru[0] ≠ 0 ∧
    (counting 6 0 16381 65536).ctx.distCmapLen = 0 ∧ (counting 6 0 16381 65536).ans2.symCount.toNat + 3 ≤ 16384 ∧
    ∀ a ∈ [0, 4096, 7168], validCell ((counting 6 0 16381 65536).prior a) = true ∧
      ∀ i < 16, 2 ≤ pdf ((counting 6 0 16381 65536).prior a) i := by
  unfold State.encoding; decide

/-- How a codec step ends: 0 with a value, 1 suspended, 2 with a failure. -/
def ending : Reply Unit → Nat
  | .ok _ _ => 0
  | .wait _ _ => 1
  | .fail _ => 2
  | .refused _ => 3
  | .fault _ => 4

theorem witness_CommandIsItsSteps :
    (∀ s ∈ [State.reset, counting 6 0 16384 65535, atMappedLiteral 64, inside 6 (Command.blank 15) .fullyDecoded],
      s.codec.top ≠ .topEof ∧ s.ctl.failed = false ∧ s.isDecode = false ∧ s.ctl.encFinished = false) ∧
    validCommand (Command.blank 15) = true ∧ State.reset.codec.top = .topBegin ∧
    (inside 6 (Command.blank 15) .fullyDecoded).codec.substate = .fullyDecoded ∧
    (inside 6 (Command.blank 15) .fullyDecoded).codec.top = .inCommand ∧
    (atMappedLiteral 64).codec.substate ≠ .fullyDecoded ∧
    ending (codecStep { State.reset.lock with codec := { State.reset.codec with cmd := Command.blank 15 } }) = 0 ∧
    ending (codecStep (counting 6 0 16384 65535).lock) = 1 ∧ ending (codecStep (atMappedLiteral 64).lock) = 2 ∧
    (filling 16 0 0 0 []).decoding ∧ ending (codecStep (filling 16 0 0 0 []).lock) = 1 := by
  unfold State.decoding; decide

theorem witness_SuspendedStepKeepsCodec :
    (match codecStep (counting 6 0 16384 65535) with | .wait w _ => some w | _ => none) = some .output ∧
    (match codecStep (filling 16 0 0 0 []) with | .wait w _ => some w | _ => none) = some .input := by decide

theorem witness_step_invariants :
    State.reset.memoriesCanonical = true ∧ State.reset.cfgLegal ∧ State.reset.failureRecorded ∧
    State.reset.eofConsistent ∧ State.reset.indicesInRange ∧ State.reset.sequenceOk ∧
    step State.reset = .next State.reset := by
  unfold State.cfgLegal State.failureRecorded State.eofConsistent State.indicesInRange State.sequenceOk
  exact ⟨by decide, by decide, by decide, by decide, by decide, ⟨fun _ => rfl, fun h => absurd h (by decide)⟩, rfl⟩
theorem witness_StepKeepsCellsValid : State.reset.cellsValid :=
  ⟨fun _ => (by decide : validCell defaultCdf = true), fun _ => (by decide : validCdf2 defaultCdf2 = true), by decide⟩
theorem witness_step_changes : ∃ t, step (waiting [[0x44, 0, 0, 3, 5]]) = .next t ∧ t.prior 0 ≠ defaultCdf :=
  ⟨_, rfl, by decide⟩

theorem witness_OnlyNamedWriters :
    ∀ i ∈ [Instr.reset, .setCfg 7, .encFinish, .pBlend 0 3 5, .bEncode true 1, .nEncPut 0 1, .tPutNibble 0 1],
      isOperation i = true ∧ (next? i State.reset).isSome = true := by decide

/-! ### A full chunk can be flushed -/

/-- `n` buffered bits from cell `k` on, each a 0 with probability 255. -/
def zeros : Nat → Nat → Memory BitCell
  | _, 0 => []
  | k, n + 1 => (k, ⟨false, 255⟩) :: zeros (k + 1) n

theorem read_zeros (n : Nat) : ∀ k i, i < n → Memory.read BitCell.zero (zeros k n) (k + i) = ⟨false, 255⟩ := by
  induction n with
  | zero => intro k i h; omega
  | succ n ih =>
    intro k i h
    cases i with
    | zero => simp [zeros, Memory.read]
    | succ i =>
      have hne : ¬ k + (i + 1) = k := by omega
      have hread := ih (k + 1) i (by omega)
      rw [show k + 1 + i = k + (i + 1) by omega] at hread
      simpa [zeros, Memory.read, hne] using hread

theorem wfFrom_zeros (n : Nat) : ∀ lo k, lo ≤ k → Memory.wfFrom BitCell.zero lo (zeros k n) = true := by
  induction n with
  | zero => intro lo k _; rfl
  | succ n ih =>
    intro lo k h
    simp only [zeros, Memory.wfFrom, Bool.and_eq_true, decide_eq_true_eq]
    exact ⟨⟨h, by decide⟩, ih (k + 1) (k + 1) (Nat.le_refl _)⟩

/-- A word is emitted at most once in two bits, so the cursor keeps room for the flush. -/
theorem chunkEncode_zeros (n : Nat) : ∀ s : State,
    (∀ i < n, Memory.read BitCell.zero s.ans1.buf i = ⟨false, 255⟩) → s.ans1.r.toNat < 2 ^ 63 →
    8 + 2 * n + (if s.ans1.r.toNat < 2 ^ 55 then 0 else 2) ≤ s.ans1.cursor.toNat →
    ∃ t, chunkEncode n s = .ok () t ∧ 8 ≤ t.ans1.cursor.toNat := by
  induction n with
  | zero => intro s _ _ hc; exact ⟨s, rfl, by omega⟩
  | succ n ih =>
    intro s hb hr hc
    have hcell := hb n (by omega)
    have hlt := s.ans1.cursor.isLt
    have hbuf : ∀ i < n, Memory.read BitCell.zero s.ans1.buf i = ⟨false, 255⟩ := fun i hi => hb i (by omega)
    by_cases hx : ansXMax false 255 ≤ s.ans1.r.toNat
    · have hr55 : ¬ s.ans1.r.toNat < 2 ^ 55 := by simp only [ansXMax, ansLs] at hx; simp at hx; omega
      rw [if_neg hr55] at hc
      have hstep : ansEncode false 255 s = .ok () { s with ans1 :=
          { s.ans1.emit (beBytes 4 (s.ans1.r.toNat % 2 ^ 32)) with
            r := BitVec.ofNat 64 (ansUpdate false 255 (s.ans1.r.toNat / 2 ^ 32)) } } := by
        rw [ansEncode, if_neg (by decide), if_pos hx, if_neg (by omega)]
      have hu : ansUpdate false 255 (s.ans1.r.toNat / 2 ^ 32) < 2 ^ 55 := by
        simp [ansUpdate, ansLs, ansBs]; omega
      have hnew : (BitVec.ofNat 64 (ansUpdate false 255 (s.ans1.r.toNat / 2 ^ 32))).toNat < 2 ^ 55 := by
        rw [BitVec.toNat_ofNat, Nat.mod_eq_of_lt (by omega)]; exact hu
      have hcur : (BitVec.ofNat 32 (s.ans1.cursor.toNat - 4)).toNat = s.ans1.cursor.toNat - 4 := by
        rw [BitVec.toNat_ofNat, Nat.mod_eq_of_lt (by omega)]
      rw [chunkEncode, hcell, hstep]
      refine ih _ hbuf (Nat.lt_trans hnew (by decide)) ?_
      rw [if_pos hnew]
      show _ ≤ (BitVec.ofNat 32 (s.ans1.cursor.toNat - 4)).toNat
      omega
    · have hstep : ansEncode false 255 s =
          .ok () { s with ans1 := { s.ans1 with r := BitVec.ofNat 64 (ansUpdate false 255 s.ans1.r.toNat) } } := by
        rw [ansEncode, if_neg (by decide), if_neg hx]
      have hu : ansUpdate false 255 s.ans1.r.toNat < 2 ^ 63 := by
        simp only [ansXMax, ansLs] at hx; simp [ansUpdate, ansLs, ansBs] at hx ⊢; omega
      have hnew : (BitVec.ofNat 64 (ansUpdate false 255 s.ans1.r.toNat)).toNat < 2 ^ 63 := by
        rw [BitVec.toNat_ofNat, Nat.mod_eq_of_lt (by omega)]; exact hu
      rw [chunkEncode, hcell, hstep]
      refine ih _ hbuf hnew ?_
      show _ ≤ s.ans1.cursor.toNat
      split at hc <;> split <;> omega

/-- A full chunk buffer, with `OUT` empty. -/
def fullChunk (buf : Memory BitCell) : State :=
  { withCfg 0 with ans1 := { Ans1.initial with count := 16384, buf := buf } }

theorem chunkFlush_fullChunk (buf : Memory BitCell)
    (hread : ∀ i < 16384, Memory.read BitCell.zero buf i = ⟨false, 255⟩) :
    ∃ t, exec .bChunkFlush (fullChunk buf) = .next t ∧ t.ctl.result = .success := by
  obtain ⟨u, hu, hc⟩ := chunkEncode_zeros 16384 { (fullChunk buf).lock with ans1 := (fullChunk buf).ans1.encodeInit }
    hread (by simp [Ans1.encodeInit, Config.ansL]) (by simp [Ans1.encodeInit, Config.ansL])
  have hcode : chunkCode (fullChunk buf).lock =
      .ok () { u with ans1 := u.ans1.emit (beBytes 8 u.ans1.r.toNat) } := by
    have hstart : chunkCode (fullChunk buf).lock =
        (chunkEncode 16384 { (fullChunk buf).lock with ans1 := (fullChunk buf).ans1.encodeInit }).bind
          fun _ s => ansFlush s := rfl
    rw [hstart, hu]
    simp [Reply.bind, ansFlush, Nat.not_lt.mpr hc]
  have hflush : ∃ v, chunkFlush (fullChunk buf).lock = .ok () v := by
    rw [chunkFlush, if_neg (by simp [fullChunk, State.lock]), if_neg (by simp [fullChunk, State.lock, withCfg,
      State.reset, Queues.initial, Queues.popAvail]), hcode]
    exact ⟨_, rfl⟩
  obtain ⟨v, hv⟩ := hflush
  refine ⟨v.answer .success .nothing, ?_, rfl⟩
  have hrun : exec .bChunkFlush (fullChunk buf) =
      ((chunkFlush (fullChunk buf).lock).map fun _ => Returns.nothing).outcome := by
    show execBChunkFlush _ = _
    rw [execBChunkFlush, runOp, if_neg (by simp [fullChunk, withCfg, Control.initial]),
      if_pos (by simp [Legal.allows, fullChunk, withCfg, State.isDecode])]
    rfl
  rw [hrun, hv]
  rfl

/-- The clause of `ChunkPutBitResult` for a full buffer that can be flushed, and that of `ChunkFlushResult` at the
greatest count. -/
theorem witness_full_chunk : ∃ buf,
    (fullChunk buf).encoding ∧ (fullChunk buf).ctl.encFinished = false ∧
    (fullChunk buf).ans1.count.toNat = 16384 ∧ (fullChunk buf).queues.outLo.toNat = 65536 ∧
    Memory.wf BitCell.zero (fullChunk buf).ans1.buf = true ∧
    (∀ i < (fullChunk buf).ans1.count.toNat, (Memory.read BitCell.zero (fullChunk buf).ans1.buf i).p ≠ 0) ∧
    ∃ t, exec .bChunkFlush (fullChunk buf) = .next t ∧ t.ctl.result = .success := by
  obtain ⟨buf, hread, hwf⟩ : ∃ buf : Memory BitCell,
      (∀ i < 16384, Memory.read BitCell.zero buf i = ⟨false, 255⟩) ∧ Memory.wf BitCell.zero buf = true :=
    ⟨zeros 0 16384, fun i hi => Nat.zero_add i ▸ read_zeros 16384 0 i hi, wfFrom_zeros 16384 0 0 (Nat.le_refl 0)⟩
  refine ⟨buf, ⟨rfl, (by decide : (withCfg 0).isDecode = false)⟩, rfl, rfl, rfl, hwf, fun i hi => ?_, chunkFlush_fullChunk buf hread⟩
  rw [show (fullChunk buf).ans1.buf = buf from rfl, hread i hi]; decide

end Sys2Proof.Tests
end

section
/-! SUPPORT. What the body of an operation can do to the state, said once: `Move`, one register transfer of one part of
the state, and `Moves`, a run of them. Every invariant and every frame is then a property of the moves. -/

namespace Sys2Proof.Machine

/-! ### What an update keeps of its component -/

/-- The ring indices and the stack pointer are in their ranges (R121, R122). -/
def Queues.inRange (qs : Queues) : Prop :=
  qs.inRd.toNat ≤ 65536 ∧ qs.inWr.toNat ≤ 65536 ∧ qs.outLo.toNat ≤ 65536

/-- Both queue memories are canonical. -/
def Queues.canonical (qs : Queues) : Prop := Memory.wf 0 qs.inMem = true ∧ Memory.wf 0 qs.outMem = true

/-- The cursor and the count of ANS1 are in their ranges (R22). -/
def Ans1.inRange (a : Ans1) : Prop := a.cursor.toNat ≤ 65536 ∧ a.count.toNat ≤ 16384

/-- Both memories of ANS1 are canonical. -/
def Ans1.canonical (a : Ans1) : Prop := Memory.wf BitCell.zero a.buf = true ∧ Memory.wf 0 a.mem = true

/-- The counting registers of ANS2 are in their ranges; a decoder never holds a full count (R23, R24, R180). -/
def Ans2.inRange (decoding : Bool) (a : Ans2) : Prop :=
  a.symCount.toNat ≤ 16384 ∧ a.bootNeed.toNat ≤ 16 ∧ a.pullNeed.toNat ≤ 4 ∧
    (decoding = true → a.symCount.toNat < 16384)

/-- An update of ANS1 that keeps its ranges and its canonical memories. -/
structure Ans1.Update (a b : Ans1) : Prop where
  canonical : a.canonical → b.canonical
  inRange   : a.inRange → b.inRange

/-- An update of ANS2, in a session of the given mode, that keeps its ranges and its canonical memory. -/
structure Ans2.Update (decoding : Bool) (a b : Ans2) : Prop where
  canonical : Memory.wf SymCell.zero a.symbuf = true → Memory.wf SymCell.zero b.symbuf = true
  inRange   : a.inRange decoding → b.inRange decoding

/-- An update of the bookkeeping registers inside a command: the maps stay canonical, and the end-of-file mark and the
weights are untouched. -/
structure Context.Update (x y : Context) : Prop where
  litCmap  : Memory.wf 0 x.litCmap = true → Memory.wf 0 y.litCmap = true
  distCmap : Memory.wf 0 x.distCmap = true → Memory.wf 0 y.distCmap = true
  eofSeen  : y.eofSeen = x.eofSeen
  weights  : y.weights = x.weights

theorem Ans1.Update.trans {a b c : Ans1} (h : a.Update b) (h' : b.Update c) : a.Update c :=
  ⟨h'.canonical ∘ h.canonical, h'.inRange ∘ h.inRange⟩

theorem Context.Update.refl (x : Context) : x.Update x := ⟨id, id, rfl, rfl⟩

theorem Context.Update.trans {x y z : Context} (h : x.Update y) (h' : y.Update z) : x.Update z :=
  ⟨h'.litCmap ∘ h.litCmap, h'.distCmap ∘ h.distCmap, h'.eofSeen.trans h.eofSeen, h'.weights.trans h.weights⟩

/-! ### Moves -/

/-- The parts of the state an operation writes: the components of R2, with the codec's registers and the bookkeeping as
one part, and `enc_finished` (R25). -/
inductive Part where
  | model
  | ans1
  | ans2
  | queues
  | bitTree
  | codec
  | encFinished

/-- The kinds of command (R97). -/
abbrev commandKinds : List Nibble := [1, 2, 3, 4, 5, 6, 7, 15]

/-- One register transfer inside an operation, of one part of the state, with what the operation has checked before. -/
inductive Move : Part → State → State → Prop
  | push (q : Queue) (src : List Byte) (s : State) : Move .queues s (s.push q src)
  | pop (q : Queue) (len : Nat) (s : State) : Move .queues s (s.pop q len)
  | ans1 {s : State} {a : Ans1} (h : s.ans1.Update a) : Move .ans1 s { s with ans1 := a }
  | ans2 {s : State} {a : Ans2} (h : s.ans2.Update s.isDecode a) : Move .ans2 s { s with ans2 := a }
  /-- In `DIRECT16` mode nothing moves the nibble-tree registers (R245, R246). -/
  | bitTree {s : State} (b : BitTree) (h : s.direct16 = false) : Move .bitTree s { s with bt := b }
  | blend (a v : Nat) (speed : BitVec 3) (s : State) : Move .model s (s.setPrior a (blend (s.prior a) v speed))
  | writePrior (a : Nat) {x : Cdf16} (h : validCell x = true) (s : State) : Move .model s (s.setPrior a x)
  | mix (x : Cdf16) (s : State) : Move .model s (s.setMix x)
  | blend2 (a2 : Nibble) (bit : Bool) (speed : BitVec 3) (s : State) :
      Move .model s (s.setCdf2 a2 (blend2 (s.cdf2 a2) bit speed))
  | encFinished (b : Bool) (s : State) : Move .encFinished s { s with ctl := { s.ctl with encFinished := b } }
  /-- Inside a command the codec moves on to a substate of the same command (R41). -/
  | codec {s : State} {x : Substate} {c : Command} {ctx : Context} (htop : s.codec.top = .inCommand)
      (hkind : c.kind = s.codec.cmd.kind) (hsub : s.codec.substate.ofCommand s.codec.cmd → x.ofCommand c)
      (hctx : s.ctx.Update ctx) : Move .codec s (s.withCodec x c ctx)
  /-- The weight update of a mixed literal (R313). -/
  | weigh (ni hctx fa fb : Nat) (s : State) :
      Move .codec s
        (s.setCtx (Context.setWeight ni hctx (BitVec.ofNat 16 (weightUpdate (s.ctx.weight ni hctx).toNat fa fb))))
  /-- Between commands an encoder latches its operand (R344). -/
  | latch (c : Command) {s : State} (htop : s.codec.top = .topBegin) : Move .codec s (s.setCmd fun _ => c)
  /-- The type step opens a command of the kind coded (R301). -/
  | opened {s : State} {c : Command} (htop : s.codec.top ≠ .topEof) (hkind : c.kind ∈ commandKinds) :
      Move .codec s { s with
        ctx := { s.ctx with lastCmd := c.kind }, codec := { top := .inCommand, substate := .begin, cmd := c } }
  /-- A complete command is closed (R302). -/
  | closed {s : State} (htop : s.codec.top = .inCommand) : Move .codec s (fullyDecodedStep s)

/-- A run of moves, all of parts of `W`. -/
def Moves (W : Part → Bool) : State → State → Prop := Relation.ReflTransGen fun s t => ∃ p, W p = true ∧ Move p s t

section
variable {W : Part → Bool} {s t u : State}

theorem Moves.refl (s : State) : Moves W s s := Relation.ReflTransGen.refl

theorem Moves.trans (h : Moves W s t) (h' : Moves W t u) : Moves W s u := Relation.ReflTransGen.trans h h'

theorem Move.moves {p : Part} (h : Move p s t) (hp : W p = true) : Moves W s t :=
  Relation.ReflTransGen.single ⟨p, hp, h⟩

/-- Moves of fewer parts are moves of more. -/
theorem Moves.mono {V : Part → Bool} (hV : ∀ p, V p = true → W p = true) (h : Moves V s t) : Moves W s t :=
  Relation.ReflTransGen.mono (fun _ _ ⟨p, hp, hm⟩ => ⟨p, hV p hp, hm⟩) _ _ h

/-- What every single move keeps, a run of moves keeps. -/
theorem Moves.keeps {I : State → Prop} (hI : ∀ {p s t}, W p = true → Move p s t → I s → I t) (h : Moves W s t)
    (hs : I s) : I t := by
  induction h with
  | refl => exact hs
  | tail _ hm ih =>
    obtain ⟨p, hp, hm⟩ := hm
    exact hI hp hm ih

/-! ### What moves leave unchanged -/

/-- A reading of the state that no single move of `W` changes is unchanged by a run of them. -/
theorem Moves.frame {β : Type} (f : State → β) (hf : ∀ {p s t}, W p = true → Move p s t → f t = f s)
    (h : Moves W s t) : f t = f s :=
  h.keeps (I := fun u => f u = f s) (fun hp hm hu => (hf hp hm).trans hu) rfl

@[simp] theorem fullyDecodedStep_ctl (s : State) : (fullyDecodedStep s).ctl = s.ctl := by
  unfold fullyDecodedStep; split <;> rfl
@[simp] theorem fullyDecodedStep_model (s : State) : (fullyDecodedStep s).model = s.model := by
  unfold fullyDecodedStep; split <;> rfl
@[simp] theorem fullyDecodedStep_bt (s : State) : (fullyDecodedStep s).bt = s.bt := by
  unfold fullyDecodedStep; split <;> rfl
@[simp] theorem fullyDecodedStep_ans1 (s : State) : (fullyDecodedStep s).ans1 = s.ans1 := by
  unfold fullyDecodedStep; split <;> rfl
@[simp] theorem fullyDecodedStep_ans2 (s : State) : (fullyDecodedStep s).ans2 = s.ans2 := by
  unfold fullyDecodedStep; split <;> rfl
@[simp] theorem fullyDecodedStep_queues (s : State) : (fullyDecodedStep s).queues = s.queues := by
  unfold fullyDecodedStep; split <;> rfl
@[simp] theorem fullyDecodedStep_port (s : State) : (fullyDecodedStep s).port = s.port := by
  unfold fullyDecodedStep; split <;> rfl

@[simp] theorem Context.setWeight_litCmap (ni hctx : Nat) (w : BitVec 16) (x : Context) :
    (x.setWeight ni hctx w).litCmap = x.litCmap := by unfold Context.setWeight; rfl
@[simp] theorem Context.setWeight_distCmap (ni hctx : Nat) (w : BitVec 16) (x : Context) :
    (x.setWeight ni hctx w).distCmap = x.distCmap := by unfold Context.setWeight; rfl
@[simp] theorem Context.setWeight_eofSeen (ni hctx : Nat) (w : BitVec 16) (x : Context) :
    (x.setWeight ni hctx w).eofSeen = x.eofSeen := by unfold Context.setWeight; rfl

/-- A move writes no control register but `enc_finished`. -/
theorem Move.ctl_eq {p : Part} (h : Move p s t) : t.ctl = { s.ctl with encFinished := t.ctl.encFinished } := by
  cases h <;> simp

theorem Move.port_eq {p : Part} (h : Move p s t) : t.port = s.port := by cases h <;> simp

theorem Move.model_eq {p : Part} (h : Move p s t) (hp : p ≠ .model) : t.model = s.model := by
  cases h <;> simp at hp ⊢

theorem Move.ans1_eq {p : Part} (h : Move p s t) (hp : p ≠ .ans1) : t.ans1 = s.ans1 := by
  cases h <;> simp at hp ⊢

theorem Move.ans2_eq {p : Part} (h : Move p s t) (hp : p ≠ .ans2) : t.ans2 = s.ans2 := by
  cases h <;> simp at hp ⊢

theorem Move.queues_eq {p : Part} (h : Move p s t) (hp : p ≠ .queues) : t.queues = s.queues := by
  cases h <;> simp at hp ⊢

theorem Move.bt_eq {p : Part} (h : Move p s t) (hp : p ≠ .bitTree) : t.bt = s.bt := by
  cases h <;> simp at hp ⊢

theorem Move.ctx_eq {p : Part} (h : Move p s t) (hp : p ≠ .codec) : t.ctx = s.ctx := by
  cases h <;> simp at hp ⊢

theorem Move.codec_eq {p : Part} (h : Move p s t) (hp : p ≠ .codec) : t.codec = s.codec := by
  cases h <;> simp at hp ⊢

theorem Move.encFinished_eq {p : Part} (h : Move p s t) (hp : p ≠ .encFinished) :
    t.ctl.encFinished = s.ctl.encFinished := by cases h <;> simp at hp ⊢

/-- A part outside `W` is not the part of a move of `W`. -/
theorem ne_of_not_written {p q : Part} (hp : W p = true) (hq : W q = false) : p ≠ q := by
  rintro rfl
  simp [hp] at hq

theorem Moves.ctl_eq (h : Moves W s t) : t.ctl = { s.ctl with encFinished := t.ctl.encFinished } := by
  have := h.frame (fun u => { u.ctl with encFinished := false }) fun _ hm => by rw [hm.ctl_eq]
  simp only [Control.mk.injEq] at this
  obtain ⟨hcfg, hres, hfailed, hlocked, herr, -⟩ := this
  show t.ctl = ⟨s.ctl.cfg, s.ctl.result, s.ctl.failed, s.ctl.cfgLocked, s.ctl.errcode, t.ctl.encFinished⟩
  rw [← hcfg, ← hres, ← hfailed, ← hlocked, ← herr]

theorem Moves.cfg_eq (h : Moves W s t) : t.ctl.cfg = s.ctl.cfg := by rw [h.ctl_eq]
theorem Moves.failed_eq (h : Moves W s t) : t.ctl.failed = s.ctl.failed := by rw [h.ctl_eq]
theorem Moves.cfgLocked_eq (h : Moves W s t) : t.ctl.cfgLocked = s.ctl.cfgLocked := by rw [h.ctl_eq]
theorem Moves.isDecode_eq (h : Moves W s t) : t.isDecode = s.isDecode := by simp [State.isDecode, h.cfg_eq]
theorem Moves.direct16_eq (h : Moves W s t) : t.direct16 = s.direct16 := by simp [State.direct16, h.cfg_eq]
theorem Moves.port_eq (h : Moves W s t) : t.port = s.port := h.frame _ fun _ hm => hm.port_eq

theorem Moves.model_eq (h : Moves W s t) (hW : W .model = false) : t.model = s.model :=
  h.frame _ fun hp hm => hm.model_eq (ne_of_not_written hp hW)
theorem Moves.ans1_eq (h : Moves W s t) (hW : W .ans1 = false) : t.ans1 = s.ans1 :=
  h.frame _ fun hp hm => hm.ans1_eq (ne_of_not_written hp hW)
theorem Moves.ans2_eq (h : Moves W s t) (hW : W .ans2 = false) : t.ans2 = s.ans2 :=
  h.frame _ fun hp hm => hm.ans2_eq (ne_of_not_written hp hW)
theorem Moves.queues_eq (h : Moves W s t) (hW : W .queues = false) : t.queues = s.queues :=
  h.frame _ fun hp hm => hm.queues_eq (ne_of_not_written hp hW)
theorem Moves.bt_eq (h : Moves W s t) (hW : W .bitTree = false) : t.bt = s.bt :=
  h.frame _ fun hp hm => hm.bt_eq (ne_of_not_written hp hW)
theorem Moves.ctx_eq (h : Moves W s t) (hW : W .codec = false) : t.ctx = s.ctx :=
  h.frame _ fun hp hm => hm.ctx_eq (ne_of_not_written hp hW)
theorem Moves.codec_eq (h : Moves W s t) (hW : W .codec = false) : t.codec = s.codec :=
  h.frame _ fun hp hm => hm.codec_eq (ne_of_not_written hp hW)
theorem Moves.encFinished_eq (h : Moves W s t) (hW : W .encFinished = false) :
    t.ctl.encFinished = s.ctl.encFinished := h.frame _ fun hp hm => hm.encFinished_eq (ne_of_not_written hp hW)

/-- In `DIRECT16` mode no move writes the nibble-tree registers (R26). -/
theorem Moves.bt_eq_of_direct16 (h : Moves W s t) (hd : s.direct16 = true) : t.bt = s.bt := by
  refine (h.keeps (I := fun u => u.direct16 = true ∧ u.bt = s.bt) ?_ ⟨hd, rfl⟩).2
  rintro p u v hp hm ⟨hu, hbt⟩
  refine ⟨(hm.moves (W := W) hp).direct16_eq.trans hu, Eq.trans ?_ hbt⟩
  cases hm with
  | bitTree b hb => simp [hu] at hb
  | _ => simp

end

/-! ### Replies made of moves -/

/-- The reply leaves a state of `P`, or the failure entry made from one. -/
def Reply.Ends {α : Type} (P : State → Prop) : Reply α → Prop
  | .ok _ s => P s
  | .wait _ s => P s
  | .fail s => ∃ c u, P u ∧ s = u.failEntry c
  | .refused _ => True
  | .fault _ => True

theorem raise_ends {α : Type} {P : State → Prop} {s : State} (c : Cause) (h : P s) :
    (raise c s : Reply α).Ends P := ⟨c, s, h, rfl⟩

theorem Reply.Ends.mono {α : Type} {P Q : State → Prop} {x : Reply α} (h : x.Ends P) (hPQ : ∀ s, P s → Q s) :
    x.Ends Q := by
  cases x with
  | fail s =>
    obtain ⟨c, u, hu, rfl⟩ := h
    exact ⟨c, u, hPQ u hu, rfl⟩
  | ok a s => exact hPQ s h
  | wait w s => exact hPQ s h
  | refused r => trivial
  | fault f => trivial

theorem Reply.Ends.bind {α β : Type} {P : State → Prop} {x : Reply α} {k : α → State → Reply β} (h : x.Ends P)
    (hk : ∀ a s, x = .ok a s → P s → (k a s).Ends P) : (x.bind k).Ends P := by
  cases x with
  | ok a s => exact hk a s rfl h
  | wait w s => exact h
  | fail s => exact h
  | refused r => trivial
  | fault f => trivial

theorem Reply.Ends.map {α β : Type} {P : State → Prop} {x : Reply α} {f : α → β} (h : x.Ends P) :
    (x.map f).Ends P := h.bind fun _ _ _ hs => hs

/-- A chain of two pieces made of moves is made of moves. -/
theorem Reply.Ends.bindMoves {α β : Type} {W : Part → Bool} {s : State} {x : Reply α} {k : α → State → Reply β}
    (h : x.Ends (Moves W s)) (hk : ∀ a u, x = .ok a u → Moves W s u → (k a u).Ends (Moves W u)) :
    (x.bind k).Ends (Moves W s) :=
  h.bind fun a u hx hu => (hk a u hx hu).mono fun _ ht => hu.trans ht

/-- A piece that starts after a move is made of moves from before it. -/
theorem Reply.Ends.after {α : Type} {W : Part → Bool} {s u : State} {x : Reply α} (h : x.Ends (Moves W u))
    (hu : Moves W s u) : x.Ends (Moves W s) := h.mono fun _ ht => hu.trans ht

end Sys2Proof.Machine
end

section
/-! SUPPORT. The coders and the nibble protocol are made of moves: one lemma per shared operation of ANS1, ANS2 and the
protocol. -/

namespace Sys2Proof.Machine

section
variable {W : Part → Bool} {s : State}

/-! ### ANS1 -/

theorem Ans1.update_state (r : BitVec 64) (a : Ans1) : a.Update { a with r := r } := ⟨id, id⟩

theorem Ans1.update_phase (phase : ChunkPhase) (a : Ans1) : a.Update { a with phase := phase } := ⟨id, id⟩

theorem Ans1.update_header (phase : ChunkPhase) (len : BitVec 16) (a : Ans1) :
    a.Update { a with len := len, phase := phase } := ⟨id, id⟩

theorem Ans1.update_cursor (a : Ans1) {c : BitVec 32} (h : a.cursor.toNat ≤ 65536 → c.toNat ≤ 65536) :
    a.Update { a with cursor := c } := ⟨id, fun ⟨hcursor, hcount⟩ => ⟨h hcursor, hcount⟩⟩

theorem Ans1.update_writeMem (i : Nat) (bs : List Byte) (a : Ans1) :
    a.Update { a with mem := Memory.writeList 0 a.mem i bs } :=
  ⟨fun ⟨hbuf, hmem⟩ => ⟨hbuf, Memory.wf_writeList i bs hmem⟩, id⟩

theorem Ans1.update_clear (a : Ans1) : a.Update { a with count := 0 } :=
  ⟨id, fun ⟨hcursor, _⟩ => ⟨hcursor, Nat.zero_le _⟩⟩

theorem Ans1.update_emit (bs : List Byte) (a : Ans1) : a.Update (a.emit bs) :=
  (a.update_cursor fun h => (Nat.mod_le _ _).trans ((Nat.sub_le _ _).trans h)).trans
    (update_writeMem (a.cursor.toNat - bs.length) bs
      { a with cursor := BitVec.ofNat 32 (a.cursor.toNat - bs.length) })

theorem Ans1.update_encodeInit (a : Ans1) : a.Update a.encodeInit :=
  (a.update_cursor (c := 65536) fun _ => Nat.le_refl 65536).trans (update_state (BitVec.ofNat 64 Config.ansL) _)

theorem Ans1.update_decodeInit (a : Ans1) : a.Update a.decodeInit :=
  (a.update_cursor (c := 8) fun _ => by decide).trans
    (update_state (BitVec.ofNat 64 (fromBE (Memory.readList 0 a.mem 0 8))) _)

theorem Ans1.update_bufferBit (bit : Bool) (p : Byte) {a : Ans1} (h : a.count.toNat ≠ 16384) :
    a.Update (a.bufferBit bit p) where
  canonical := fun ⟨hbuf, hmem⟩ => ⟨Memory.wf_write _ _ hbuf, hmem⟩
  inRange := fun ⟨hcursor, hcount⟩ => by
    refine ⟨hcursor, ?_⟩
    show (a.count + 1).toNat ≤ 16384
    bv_omega

theorem ansEncode_ends (h1 : W .ans1 = true) (bit : Bool) (p : Byte) : (ansEncode bit p s).Ends (Moves W s) := by
  unfold ansEncode
  split
  · exact raise_ends _ (Moves.refl s)
  · split
    · split
      · exact raise_ends _ (Moves.refl s)
      · exact (Move.ans1 ((s.ans1.update_emit _).trans (Ans1.update_state _ _))).moves h1
    · exact (Move.ans1 (Ans1.update_state _ _)).moves h1

theorem ansFlush_ends (h1 : W .ans1 = true) : (ansFlush s).Ends (Moves W s) := by
  unfold ansFlush
  split
  · exact raise_ends _ (Moves.refl s)
  · exact (Move.ans1 (s.ans1.update_emit _)).moves h1

theorem ansAdvance_ends (h1 : W .ans1 = true) {limit : Nat} (hl : limit ≤ 65536) (x1 : Nat) :
    (ansAdvance limit x1 s).Ends (Moves W s) := by
  unfold ansAdvance
  split
  · split
    · exact raise_ends _ (Moves.refl s)
    · have hcursor : (BitVec.ofNat 32 (s.ans1.cursor.toNat + 4)).toNat ≤ 65536 := by
        rw [BitVec.toNat_ofNat]; omega
      exact (Move.ans1 ((s.ans1.update_cursor fun _ => hcursor).trans (Ans1.update_state _ _))).moves h1
  · exact (Move.ans1 (Ans1.update_state _ _)).moves h1

theorem chunkEncode_ends (h1 : W .ans1 = true) (n : Nat) : (chunkEncode n s).Ends (Moves W s) := by
  induction n generalizing s with
  | zero => exact Moves.refl s
  | succ n ih => exact (ansEncode_ends h1 _ _).bindMoves fun _ _ _ _ => ih

theorem chunkCode_ends (h1 : W .ans1 = true) : (chunkCode s).Ends (Moves W s) :=
  ((chunkEncode_ends h1 _).bindMoves fun _ _ _ _ => ansFlush_ends h1).after
    ((Move.ans1 s.ans1.update_encodeInit).moves h1)

theorem chunkFlush_ends (h1 : W .ans1 = true) (hq : W .queues = true) : (chunkFlush s).Ends (Moves W s) := by
  unfold chunkFlush
  split
  · exact Moves.refl s
  · split
    · exact Moves.refl s
    · refine (chunkCode_ends h1).bindMoves fun _ u _ _ => ?_
      exact (((Move.push _ _ u).moves hq).trans ((Move.push _ _ _).moves hq)).trans
        ((Move.ans1 (Ans1.update_clear _)).moves h1)

/-- After a flush that completes, no bit is buffered (R153). -/
theorem chunkFlush_count {t : State} (h : chunkFlush s = .ok () t) : t.ans1.count = 0 := by
  unfold chunkFlush at h
  split at h
  · cases h; assumption
  · split at h
    · cases h
    · obtain ⟨_, u, -, hu⟩ := Reply.bind_eq_ok.mp h
      cases hu; rfl

theorem chunkPutBit_ends (h1 : W .ans1 = true) (hq : W .queues = true) (bit : Bool) (p : Byte) :
    (chunkPutBit bit p s).Ends (Moves W s) := by
  have buffer {u : State} (hu : u.ans1.count.toNat ≠ 16384) :
      Moves W u { u with ans1 := u.ans1.bufferBit bit p } := (Move.ans1 (Ans1.update_bufferBit bit p hu)).moves h1
  unfold chunkPutBit
  split
  · exact raise_ends _ (Moves.refl s)
  · split
    · exact raise_ends _ (Moves.refl s)
    · split
      · refine (chunkFlush_ends h1 hq).bindMoves fun _ u hu _ => buffer ?_
        rw [chunkFlush_count hu]; decide
      · exact buffer ‹_›

theorem chunkHeader_ends (h1 : W .ans1 = true) (hq : W .queues = true) : (chunkHeader s).Ends (Moves W s) := by
  unfold chunkHeader
  split
  · exact Moves.refl s
  · split
    · exact Moves.refl s
    · have hpop : Moves W s (s.pop .input 2) := (Move.pop _ _ s).moves hq
      dsimp only
      split
      · exact raise_ends _ hpop
      · exact hpop.trans ((Move.ans1 (Ans1.update_header .needPayload _ _)).moves h1)

theorem chunkPayload_ends (h1 : W .ans1 = true) (hq : W .queues = true) : (chunkPayload s).Ends (Moves W s) := by
  unfold chunkPayload
  split
  · exact Moves.refl s
  · split
    · exact Moves.refl s
    · have load (u : State) (bs : List Byte) : Moves W u { u with
          ans1 := { Ans1.decodeInit { u.ans1 with mem := Memory.writeList 0 u.ans1.mem 0 bs } with phase := .run } } :=
        (Move.ans1 (((Ans1.update_writeMem 0 bs u.ans1).trans (Ans1.update_decodeInit _)).trans
          (Ans1.update_phase .run _))).moves h1
      exact ((Move.pop .input _ s).moves hq).trans (load (s.pop .input s.ans1.len.toNat) _)

theorem chunkGetLoop_ends (h1 : W .ans1 = true) (hq : W .queues = true) (p : Byte) (n : Nat) :
    (chunkGetLoop p n s).Ends (Moves W s) := by
  induction n generalizing s with
  | zero => exact Moves.refl s
  | succ n ih =>
    refine (chunkHeader_ends h1 hq).bindMoves fun _ u _ _ => (chunkPayload_ends h1 hq).bindMoves fun _ v _ _ => ?_
    split
    · exact ih.after ((Move.ans1 (v.ans1.update_phase .needHdr)).moves h1)
    · exact (ansAdvance_ends h1 (by have := v.ans1.len.isLt; omega) _).map

theorem chunkGetBit_ends (h1 : W .ans1 = true) (hq : W .queues = true) (p : Byte) :
    (chunkGetBit p s).Ends (Moves W s) := by
  unfold chunkGetBit
  split
  · exact raise_ends _ (Moves.refl s)
  · exact chunkGetLoop_ends h1 hq p _

/-! ### ANS2 -/

/-- An update of the streams and the pull only. -/
theorem Ans2.update_streams (dec : Bool) (x y : BitVec 64) (acc : BitVec 32) (a : Ans2) :
    a.Update dec { a with stateA := x, stateB := y, pullAcc := acc } := ⟨id, id⟩

theorem Ans2.update_clear (dec : Bool) (a : Ans2) : a.Update dec { a with symCount := 0 } :=
  ⟨id, fun ⟨_, hboot, hpull, _⟩ => ⟨Nat.zero_le _, hboot, hpull, fun _ => show 0 < 16384 by decide⟩⟩

theorem Ans2.update_setStream (dec k : Bool) (x : BitVec 64) (a : Ans2) : a.Update dec (a.setStream k x) := by
  cases k <;> exact ⟨id, id⟩

/-- An encoder buffers a symbol where there is room. -/
theorem Ans2.update_bufferSym (start freq : BitVec 16) {a : Ans2} (h : a.symCount.toNat ≠ 16384) :
    a.Update false (a.bufferSym start freq) where
  canonical := Memory.wf_write _ _
  inRange := fun ⟨hsym, hboot, hpull, _⟩ => by
    refine ⟨?_, hboot, hpull, nofun⟩
    show (a.symCount + 1).toNat ≤ 16384
    bv_omega

/-- Where a byte is wanted, taking it keeps the ranges. -/
theorem Ans2.update_takeByte (dec : Bool) (b : Byte) {a : Ans2} (h : a.bytesWanted ≠ 0) :
    a.Update dec (a.takeByte b) where
  canonical := by
    unfold takeByte bootByte pullByte
    dsimp only
    repeat' split
    all_goals exact id
  inRange := fun ⟨hsym, hboot, hpull, hdec⟩ => by
    unfold bytesWanted at h
    unfold takeByte bootByte pullByte
    dsimp only
    repeat' split
    all_goals refine ⟨hsym, ?_, ?_, hdec⟩ <;> dsimp only <;> bv_omega

/-- A byte taken is one byte fewer wanted. -/
theorem Ans2.bytesWanted_takeByte (b : Byte) {a : Ans2} (h : a.bytesWanted ≠ 0) :
    (a.takeByte b).bytesWanted + 1 = a.bytesWanted := by
  unfold bytesWanted at h ⊢
  unfold takeByte bootByte pullByte
  dsimp only
  repeat' split
  all_goals dsimp only; bv_omega

/-- A decoder that has used a symbol counts it, and counts a full batch as 0 (R180). -/
theorem Ans2.update_advance (start freq : Nat) (a : Ans2) : a.Update true (a.advance start freq) where
  canonical := by
    unfold advance
    split <;> exact id
  inRange := fun ⟨hsym, hboot, hpull, hdec⟩ => by
    have hlt := hdec rfl
    unfold advance
    split
    · exact ⟨Nat.zero_le _, Nat.le_refl 16, Nat.zero_le _, fun _ => show 0 < 16384 by decide⟩
    · have hnot : ¬ a.symCount.toNat + 1 = 16384 := ‹_›
      have hnext : (a.symCount + 1).toNat < 16384 := by bv_omega
      refine ⟨hnext.le, hboot, ?_, fun _ => hnext⟩
      dsimp only
      split
      · decide
      · exact hpull

theorem flushSyms_moves (h2 : W .ans2 = true) (hq : W .queues = true) (n : Nat) : Moves W s (flushSyms n s) := by
  have put (k : Bool) (start freq : Nat) (s : State) : Moves W s (reversePutSym k start freq s) := by
    unfold reversePutSym
    dsimp only
    split
    · exact ((Move.push _ _ s).moves hq).trans ((Move.ans2 (Ans2.update_setStream _ _ _ _)).moves h2)
    · exact (Move.ans2 (Ans2.update_setStream _ _ _ _)).moves h2
  induction n generalizing s with
  | zero => exact Moves.refl s
  | succ n ih => exact (put _ _ _ s).trans ih

/-- The state R173 leaves of a batch that could be coded, with `enc_finished` as it was. -/
def State.batchFlushed (s : State) : State :=
  let u := flushSyms s.ans2.symCount.toNat { s with ans2 := s.ans2.startStates }
  let v := (u.push .output (leBytes 8 u.ans2.stateB.toNat)).push .output (leBytes 8 u.ans2.stateA.toNat)
  { v with ans2 := { v.ans2 with symCount := 0 } }

theorem batchFlushed_moves (h2 : W .ans2 = true) (hq : W .queues = true) : Moves W s s.batchFlushed := by
  have start : Moves W s { s with ans2 := s.ans2.startStates } :=
    (Move.ans2 (Ans2.update_streams _ _ _ s.ans2.pullAcc _)).moves h2
  have push (src : List Byte) (u : State) : Moves W u (u.push .output src) := (Move.push _ _ u).moves hq
  exact start.trans ((flushSyms_moves h2 hq _).trans ((push _ _).trans ((push _ _).trans
    ((Move.ans2 (Ans2.update_clear _ _)).moves h2))))

/-- Everything `N_FLUSH_CHUNK` can do: nothing, wait, or code the batch into `OUT` and empty the buffer, which finishes
the encoding exactly when the batch was not full (R173). -/
theorem symFlush_cases (s : State) :
    (s.ans2.symCount.toNat = 0 ∧ symFlush s = .ok () s) ∨ symFlush s = .wait .output s ∨
      symFlush s = .ok () { s.batchFlushed with
        ctl := { s.batchFlushed.ctl with
          encFinished := s.batchFlushed.ctl.encFinished || decide (s.ans2.symCount.toNat < Config.batchSyms) } } := by
  unfold symFlush
  dsimp only
  split
  · exact .inl ⟨‹_›, rfl⟩
  · split
    · exact .inr (.inl rfl)
    · exact .inr (.inr rfl)

theorem symFlush_ends (h2 : W .ans2 = true) (hq : W .queues = true) (he : W .encFinished = true) :
    (symFlush s).Ends (Moves W s) := by
  rcases symFlush_cases s with ⟨-, h⟩ | h | h <;> rw [h]
  · exact Moves.refl s
  · exact Moves.refl s
  · exact (batchFlushed_moves h2 hq).trans ((Move.encFinished _ _).moves he)

/-- The flush of a full batch does not finish the encoding, and where it completes it empties the buffer (R171,
R173). -/
theorem symFlush_full (h2 : W .ans2 = true) (hq : W .queues = true) (hfull : s.ans2.symCount.toNat = Config.batchSyms) :
    (symFlush s).Ends (Moves W s) ∧ ∀ t, symFlush s = .ok () t → t.ans2.symCount = 0 := by
  rcases symFlush_cases s with ⟨h0, -⟩ | h | h
  · exact absurd (h0.symm.trans hfull) (by decide)
  · rw [h]; exact ⟨Moves.refl s, fun _ ht => by cases ht⟩
  · have hlt : decide (s.ans2.symCount.toNat < Config.batchSyms) = false :=
      decide_eq_false (Nat.not_lt.mpr hfull.ge)
    rw [hlt, Bool.or_false] at h
    rw [h]
    exact ⟨batchFlushed_moves h2 hq, fun t ht => by cases ht; rfl⟩

theorem symPut_ends (h2 : W .ans2 = true) (hq : W .queues = true) (hs : s.isDecode = false) (start freq : BitVec 16) :
    (symPut start freq s).Ends (Moves W s) := by
  have buffer {u : State} (hd : u.isDecode = false) (hu : u.ans2.symCount.toNat ≠ 16384) :
      Moves W u { u with ans2 := u.ans2.bufferSym start freq } :=
    (Move.ans2 (hd ▸ Ans2.update_bufferSym start freq hu)).moves h2
  unfold symPut
  split
  · exact raise_ends _ (Moves.refl s)
  split
  · exact raise_ends _ (Moves.refl s)
  split
  · exact raise_ends _ (Moves.refl s)
  split
  · obtain ⟨hends, hcount⟩ := symFlush_full h2 hq ‹_›
    refine hends.bindMoves fun _ u hu hm => buffer (hm.isDecode_eq.trans hs) ?_
    rw [hcount u hu]; decide
  · exact buffer hs ‹_›

theorem symPutBit_ends (h2 : W .ans2 = true) (hq : W .queues = true) (hs : s.isDecode = false) (bit : Bool)
    (p : Byte) : (symPutBit bit p s).Ends (Moves W s) := by
  unfold symPutBit
  split
  · exact raise_ends _ (Moves.refl s)
  · exact symPut_ends h2 hq hs _ _

theorem fillLoop_ends (h2 : W .ans2 = true) (hq : W .queues = true) (n : Nat) (hn : n ≤ s.ans2.bytesWanted) :
    (fillLoop n s).Ends (Moves W s) := by
  induction n generalizing s with
  | zero => exact Moves.refl s
  | succ n ih =>
    unfold fillLoop
    split
    · exact Moves.refl s
    · have hwant : s.ans2.bytesWanted ≠ 0 := by omega
      have take (b : Byte) : Moves W (s.pop .input 1) { s.pop .input 1 with ans2 := s.ans2.takeByte b } :=
        (Move.ans2 (s := s.pop .input 1) (Ans2.update_takeByte _ b hwant)).moves h2
      refine (ih ?_).after (((Move.pop _ _ s).moves hq).trans (take _))
      have := Ans2.bytesWanted_takeByte (((s.queues.popBytes .input 1).head?).getD 0) hwant
      show n ≤ (s.ans2.takeByte _).bytesWanted
      omega

theorem symFill_ends (h2 : W .ans2 = true) (hq : W .queues = true) : (symFill s).Ends (Moves W s) :=
  fillLoop_ends h2 hq _ (Nat.le_refl _)

theorem symOffset_ends (h2 : W .ans2 = true) (hq : W .queues = true) : (symOffset s).Ends (Moves W s) :=
  (symFill_ends h2 hq).bindMoves fun _ u _ _ => Moves.refl u

theorem symAdvance_ends (h2 : W .ans2 = true) (hs : s.isDecode = true) (start freq : BitVec 16) :
    (symAdvance start freq s).Ends (Moves W s) := by
  unfold symAdvance
  split
  · exact raise_ends _ (Moves.refl s)
  split
  · exact raise_ends _ (Moves.refl s)
  split
  · exact (Move.ans2 (hs ▸ Ans2.update_advance _ _ _)).moves h2
  · exact raise_ends _ (Moves.refl s)

theorem symGetBit_ends (h2 : W .ans2 = true) (hq : W .queues = true) (hs : s.isDecode = true) (p : Byte) :
    (symGetBit p s).Ends (Moves W s) := by
  unfold symGetBit
  split
  · exact raise_ends _ (Moves.refl s)
  · exact (symOffset_ends h2 hq).bindMoves fun _ u _ hu =>
      (symAdvance_ends h2 (hu.isDecode_eq.trans hs) _ _).map

/-! ### The protocol -/

/-- The parts the nibble protocol writes are among `W`. -/
structure Part.Coder (W : Part → Bool) : Prop where
  ans1    : W .ans1 = true
  ans2    : W .ans2 = true
  queues  : W .queues = true
  bitTree : W .bitTree = true

theorem putBit_ends (h1 : W .ans1 = true) (h2 : W .ans2 = true) (hq : W .queues = true) (hs : s.isDecode = false)
    (bit : Bool) (p : Byte) : (putBit bit p s).Ends (Moves W s) := by
  unfold putBit
  split
  · exact symPutBit_ends h2 hq hs bit p
  · exact chunkPutBit_ends h1 hq bit p

theorem getBit_ends (h1 : W .ans1 = true) (h2 : W .ans2 = true) (hq : W .queues = true) (hs : s.isDecode = true)
    (p : Byte) : (getBit p s).Ends (Moves W s) := by
  unfold getBit
  split
  · exact symGetBit_ends h2 hq hs p
  · exact chunkGetBit_ends h1 hq p

theorem withDivisor_ends {α : Type} {P : State → Prop} {k : Reply α} (d : Int) (hs : P s) (hk : k.Ends P) :
    (withDivisor d s k).Ends P := by
  rcases withDivisor_cases d s k with ⟨-, h⟩ | ⟨-, h⟩ <;> rw [h]
  · exact raise_ends _ hs
  · exact hk

theorem putTree_ends (hW : Part.Coder W) (hs : s.isDecode = false) (hb : s.direct16 = false) (x : Cdf16)
    (nibble : Nibble) (n : Nat) : (putTree x nibble n s).Ends (Moves W s) := by
  induction n generalizing s with
  | zero => exact (Move.bitTree _ hb).moves hW.bitTree
  | succ n ih =>
    refine withDivisor_ends _ (Moves.refl s)
      ((putBit_ends hW.ans1 hW.ans2 hW.queues hs _ _).bindMoves fun _ u _ hu => ?_)
    have hbu : u.direct16 = false := hu.direct16_eq.trans hb
    have hsu : u.isDecode = false := hu.isDecode_eq.trans hs
    exact Reply.Ends.after (ih hsu hbu) ((Move.bitTree _ hbu).moves hW.bitTree)

theorem getTree_ends (hW : Part.Coder W) (hs : s.isDecode = true) (hb : s.direct16 = false) (x : Cdf16) (n : Nat) :
    (getTree x n s).Ends (Moves W s) := by
  induction n generalizing s with
  | zero => exact (Move.bitTree _ hb).moves hW.bitTree
  | succ n ih =>
    refine withDivisor_ends _ (Moves.refl s)
      ((getBit_ends hW.ans1 hW.ans2 hW.queues hs _).bindMoves fun _ u _ hu => ?_)
    have hbu : u.direct16 = false := hu.direct16_eq.trans hb
    have hsu : u.isDecode = true := hu.isDecode_eq.trans hs
    exact Reply.Ends.after (ih hsu hbu) ((Move.bitTree _ hbu).moves hW.bitTree)

theorem putNibble_ends (hW : Part.Coder W) (hs : s.isDecode = false) (x : Cdf16) (nibble : Nibble) :
    (putNibble x nibble s).Ends (Moves W s) := by
  unfold putNibble
  split
  · exact withDivisor_ends _ (Moves.refl s) (symPut_ends hW.ans2 hW.queues hs _ _)
  · have hb : s.direct16 = false := by simpa using ‹¬ s.direct16 = true›
    have hstart : (putNibbleTree x nibble s).Ends (Moves W { s with bt := s.bt.resume x }) :=
      putTree_ends (s := { s with bt := s.bt.resume x }) hW hs hb x nibble _
    exact hstart.after ((Move.bitTree _ hb).moves hW.bitTree)

theorem getNibble_ends (hW : Part.Coder W) (hs : s.isDecode = true) (x : Cdf16) :
    (getNibble x s).Ends (Moves W s) := by
  unfold getNibble
  split
  · refine (symOffset_ends hW.ans2 hW.queues).bindMoves fun _ u _ hu =>
      withDivisor_ends _ (Moves.refl u) ?_
    dsimp only
    split
    · exact raise_ends _ (Moves.refl u)
    · exact (symAdvance_ends hW.ans2 (hu.isDecode_eq.trans hs) _ _).map
  · have hb : s.direct16 = false := by simpa using ‹¬ s.direct16 = true›
    have hstart : (getNibbleTree x s).Ends (Moves W { s with bt := s.bt.resume x }) :=
      getTree_ends (s := { s with bt := s.bt.resume x }) hW hs hb x _
    exact hstart.after ((Move.bitTree _ hb).moves hW.bitTree)

theorem codeAgainst_ends (hW : Part.Coder W) (x : Cdf16) (want : Nibble) :
    (codeAgainst x want s).Ends (Moves W s) := by
  unfold codeAgainst
  split
  · exact getNibble_ends hW ‹_› x
  · exact (putNibble_ends hW (by simpa using ‹¬ s.isDecode = true›) x want).map

theorem codeNibble_ends (hW : Part.Coder W) (hm : W .model = true) (a : Nat) (speed : BitVec 3) (want : Nibble) :
    (codeNibble a speed want s).Ends (Moves W s) :=
  (codeAgainst_ends hW _ _).bindMoves fun v u _ _ => (Move.blend a v.toNat speed u).moves hm

end

/-- The parts that coding a nibble may write, with its cell. -/
def Part.writtenByNibble : Part → Bool
  | .codec => false
  | .encFinished => false
  | _ => true

/-- Coding a nibble leaves the codec, the bookkeeping and the control registers as they are. -/
theorem codeAgainst_frame {x : Cdf16} {want v : Nibble} {s t : State} (h : codeAgainst x want s = .ok v t) :
    t.codec = s.codec ∧ t.ctx = s.ctx ∧ t.ctl = s.ctl := by
  have hm := codeAgainst_ends (W := Part.writtenByNibble) (s := s) ⟨rfl, rfl, rfl, rfl⟩ x want
  rw [h] at hm
  have hm : Moves _ s t := hm
  exact ⟨hm.codec_eq rfl, hm.ctx_eq rfl, by rw [hm.ctl_eq, hm.encFinished_eq rfl]⟩

theorem codeNibble_frame {a : Nat} {speed : BitVec 3} {want v : Nibble} {s t : State}
    (h : codeNibble a speed want s = .ok v t) : t.codec = s.codec ∧ t.ctx = s.ctx ∧ t.ctl = s.ctl := by
  obtain ⟨s', h', rfl⟩ := codeNibble_eq_ok.mp h
  simpa using codeAgainst_frame h'

end Sys2Proof.Machine
end

section
/-! SUPPORT. The rows of the value tables, the codec steps and the loop of `ENCODE_CMD` and `DECODE_CMD` are made of
moves. -/

namespace Sys2Proof.Machine

/-! ### Substates and their users -/

/-- The command kind whose fields a user of the tiered integer codes (R263). -/
def IntUser.kind : IntUser → Nibble
  | .copyCount => 1
  | .literalLen => 3
  | .dictField _ => 2
  | .mapCount _ => 7

/-- A stage of a user belongs to the commands of the user's kind. -/
theorem IntUser.at_ofCommand (u : IntUser) (stage : IntStage) (c : Command) :
    (u.at stage).ofCommand c ↔ c.kind = u.kind ∧ stage.ok := by
  cases u <;> cases stage <;> simp [IntUser.at, Substate.ofCommand, IntUser.kind, IntStage.ok]

theorem Substate.eq_at_of_intStage {x : Substate} {u : IntUser} {stage : IntStage}
    (h : x.intStage = some (u, stage)) : x = u.at stage := by
  cases x <;> cases h <;> rfl

/-- A stage of a user reads the table of the stage in the user's style. -/
theorem IntUser.at_table (u : IntUser) (stage : IntStage) : (u.at stage).table = stage.table u.copyStyle := by
  cases u <;> cases stage <;> rfl

/-- The tables of the tiered integer. -/
abbrev integerTables : List NibbleTable := [.small, .firstCopy, .greaterCopy, .firstLit, .greaterLit, .header]

theorem IntStage.table_mem {stage : IntStage} {copyStyle : Bool} {t : NibbleTable}
    (h : stage.table copyStyle = some t) : t ∈ integerTables := by
  cases stage <;> cases copyStyle <;> cases h <;> decide

/-- A table that is none of the tiered integer's says which substate reads it. -/
theorem Substate.table_cases {x : Substate} {t : NibbleTable} (h : x.table = some t) (ht : t ∉ integerTables) :
    (t = .distMnemonic ∧ x = .distanceLengthMnemonic) ∨ (t = .highEntropy ∧ x = .literalHighEntropy) ∨
      (t = .predMode ∧ x = .predMode) ∨ (t = .speed ∧ (x = .predSpeedStride ∨ x = .predSpeedCm)) ∨
      (t = .cmapEntry ∧ ∃ mi j, x = .mapEntryMnemonic mi j) := by
  cases hx : x.intStage with
  | some p =>
    obtain ⟨u, stage⟩ := p
    rw [Substate.eq_at_of_intStage hx, u.at_table] at h
    exact absurd (IntStage.table_mem h) ht
  | none => cases x <;> cases hx <;> cases h <;> simp at ht ⊢

/-- Where the codec reads a table inside a command, its substate has that table. -/
theorem State.expects_inCommand {s : State} {t : NibbleTable} (h : s.expects = some t) (ht : t ≠ .cmdType) :
    s.codec.top = .inCommand ∧ s.codec.substate.table = some t := by
  unfold State.expects at h
  split at h
  · cases h
  · split at h
    · cases h; exact absurd rfl ht
    · exact ⟨‹_›, h⟩
    · cases h

theorem State.expects_not_failed {s : State} {t : NibbleTable} (h : s.expects = some t) : s.ctl.failed = false := by
  unfold State.expects at h
  split at h
  · cases h
  · simpa using ‹¬ s.ctl.failed = true›

theorem State.expects_not_topEof {s : State} {t : NibbleTable} (h : s.expects = some t) : s.codec.top ≠ .topEof := by
  intro he
  simp [State.expects, he] at h

/-! ### Codec moves -/

section
variable {W : Part → Bool} {s : State}

theorem withCodec_moves (hc : W .codec = true) (htop : s.codec.top = .inCommand) {x : Substate} {c : Command}
    {ctx : Context} (hkind : c.kind = s.codec.cmd.kind)
    (hsub : s.codec.substate.ofCommand s.codec.cmd → x.ofCommand c) (hctx : s.ctx.Update ctx) :
    Moves W s (s.withCodec x c ctx) := (Move.codec htop hkind hsub hctx).moves hc

theorem goto_moves (hc : W .codec = true) (htop : s.codec.top = .inCommand) {x : Substate}
    (hsub : s.codec.substate.ofCommand s.codec.cmd → x.ofCommand s.codec.cmd) : Moves W s (s.goto x) :=
  withCodec_moves (c := s.codec.cmd) hc htop rfl hsub (Context.Update.refl s.ctx)

theorem setCmd_goto_moves (hc : W .codec = true) (htop : s.codec.top = .inCommand) {f : Command → Command}
    {x : Substate} (hkind : (f s.codec.cmd).kind = s.codec.cmd.kind)
    (hsub : s.codec.substate.ofCommand s.codec.cmd → x.ofCommand (f s.codec.cmd)) :
    Moves W s ((s.setCmd f).goto x) :=
  withCodec_moves (c := f s.codec.cmd) hc htop hkind hsub (Context.Update.refl s.ctx)

@[simp] theorem setDictField_kind (f : Fin 4) (v : BitVec 32) (c : Command) : (setDictField f v c).kind = c.kind := by
  unfold setDictField
  repeat' split
  all_goals rfl

@[simp] theorem setCommandMap_kind (mi : MapId) (m : List Byte) (c : Command) :
    (setCommandMap mi m c).kind = c.kind := by cases mi <;> rfl

/-- A change for a decode session is a change of the command in either kind of session. -/
theorem State.setDecoded_eq (s : State) {f : Command → Command} (hf : ∀ c, (f c).kind = c.kind) :
    ∃ g : Command → Command, (∀ c, (g c).kind = c.kind) ∧ s.setDecoded f = s.setCmd g := by
  unfold State.setDecoded
  split
  · exact ⟨f, hf, rfl⟩
  · exact ⟨id, fun _ => rfl, rfl⟩

/-- The bookkeeping registers after the commit of a prediction-mode command (R324). -/
def Context.committed (c : Command) (x : Context) : Context :=
  { x with
    predMode := c.pm
    speedStride := c.speedStride
    speedCm := c.speedCm
    litCmap := Memory.writeList 0 x.litCmap 0 c.litMap
    litCmapLen := BitVec.ofNat 15 c.litMap.length
    distCmap := Memory.writeList 0 x.distCmap 0 c.distMap
    distCmapLen := BitVec.ofNat 11 c.distMap.length }

theorem Context.update_committed (c : Command) (x : Context) : x.Update (x.committed c) :=
  ⟨Memory.wf_writeList 0 c.litMap, Memory.wf_writeList 0 c.distMap, rfl, rfl⟩

/-- A complete integer moves the codec on within the user's command, or fails (R280, R303, R316, R321). -/
theorem complete_ends (hc : W .codec = true) (htop : s.codec.top = .inCommand) {u : IntUser}
    (hu : s.codec.substate.ofCommand s.codec.cmd → s.codec.cmd.kind = u.kind) (v : BitVec 32) :
    (u.complete v s).Ends (Moves W s) := by
  cases u with
  | copyCount => exact setCmd_goto_moves hc htop rfl hu
  | literalLen =>
    unfold IntUser.complete
    dsimp only
    split
    · exact raise_ends _ (Moves.refl s)
    · exact setCmd_goto_moves hc htop rfl hu
  | dictField f =>
    refine setCmd_goto_moves hc htop (setDictField_kind f v _) fun h => ?_
    split
    · exact ⟨(setDictField_kind f v _).trans (hu h), trivial⟩
    · trivial
  | mapCount mi =>
    obtain ⟨g, hg, hs⟩ := s.setDecoded_eq (setCommandMap_kind mi (List.replicate v.toNat 0))
    have hkind (h : s.codec.substate.ofCommand s.codec.cmd) : (g s.codec.cmd).kind = 7 := (hg _).trans (hu h)
    unfold IntUser.complete
    dsimp only
    split
    · exact raise_ends _ (Moves.refl s)
    · rw [show (if s.isDecode then s.setCmd (setCommandMap mi (List.replicate v.toNat 0)) else s) = s.setCmd g from hs]
      split
      · exact setCmd_goto_moves hc htop (hg _) hkind
      · split
        · exact setCmd_goto_moves hc htop (hg _) fun h => ⟨hkind h, trivial⟩
        · exact withCodec_moves (x := .fullyDecoded) hc htop (hg _) (fun _ => trivial) (Context.update_committed _ _)

/-! ### Rows -/

theorem withUser_ends {P : State → Prop} {k : IntUser → Reply Unit}
    (h : ∀ u stage, s.codec.substate = u.at stage → (k u).Ends P) : (withUser s k).Ends P := by
  unfold withUser
  split
  · exact h _ _ (Substate.eq_at_of_intStage ‹_›)
  · trivial

/-- At a stage of a user the command is of the user's kind. -/
theorem kind_of_at {u : IntUser} {stage : IntStage} (hsub : s.codec.substate = u.at stage)
    (h : s.codec.substate.ofCommand s.codec.cmd) : s.codec.cmd.kind = u.kind := by
  rw [hsub] at h
  exact ((u.at_ofCommand stage _).mp h).1

/-- A user's integer may go on to another stage whose parameters are in range. -/
theorem goto_at_moves (hc : W .codec = true) (htop : s.codec.top = .inCommand) {u : IntUser} {stage next : IntStage}
    (hsub : s.codec.substate = u.at stage) (hok : stage.ok → next.ok) : Moves W s (s.goto (u.at next)) := by
  refine goto_moves hc htop fun h => ?_
  rw [hsub, u.at_ofCommand] at h
  exact (u.at_ofCommand next _).mpr ⟨h.1, hok h.2⟩

theorem smallDone_ends (hc : W .codec = true) (htop : s.codec.top = .inCommand) (v : BitVec 32) :
    (smallDone v s).Ends (Moves W s) :=
  withUser_ends fun _ _ hsub => complete_ends hc htop (kind_of_at hsub) v

theorem smallGoto_ends (hc : W .codec = true) (htop : s.codec.top = .inCommand) {next : IntStage} (hok : next.ok) :
    (smallGoto next s).Ends (Moves W s) :=
  withUser_ends fun _ _ hsub => goto_at_moves hc htop hsub fun _ => hok

theorem copyDone_moves (hc : W .codec = true) (htop : s.codec.top = .inCommand) (d : BitVec 32) :
    Moves W s (copyDone d s) :=
  withCodec_moves (x := .fullyDecoded) (c := { s.codec.cmd with distance := d })
    (ctx := { s.ctx with distanceLru := touch s.ctx.distanceLru d }) hc htop rfl (fun _ => trivial) ⟨id, id, rfl, rfl⟩

theorem smallEscape_ends (hc : W .codec = true) (htop : s.codec.top = .inCommand) :
    (smallEscape s).Ends (Moves W s) := by
  refine withUser_ends fun u _ _ => ?_
  split
  · exact withCodec_moves (x := .fullyDecoded)
      (c := { s.codec.cmd with numBytes := 1, distance := s.ctx.distanceLru[0] })
      (ctx := { s.ctx with distanceLru := touch s.ctx.distanceLru s.ctx.distanceLru[0] }) hc htop rfl
      (fun _ => trivial) ⟨id, id, rfl, rfl⟩
  · exact raise_ends _ (Moves.refl s)

theorem firstNibble_ends (hc : W .codec = true) (htop : s.codec.top = .inCommand) (f : Nat) :
    (firstNibble f s).Ends (Moves W s) := by
  refine withUser_ends fun u _ hsub => ?_
  split
  · exact raise_ends _ (Moves.refl s)
  · exact complete_ends hc htop (kind_of_at hsub) _

theorem greaterNibble_ends (hc : W .codec = true) (htop : s.codec.top = .inCommand) (g : Nat) :
    (greaterNibble g s).Ends (Moves W s) := by
  refine withUser_ends fun u _ hsub => ?_
  split
  · exact raise_ends _ (Moves.refl s)
  · exact complete_ends hc htop (kind_of_at hsub) _

theorem headerNibble_ends (hc : W .codec = true) (htop : s.codec.top = .inCommand) (h : Nat) :
    (headerNibble h s).Ends (Moves W s) := by
  unfold headerNibble
  split
  · exact raise_ends _ (Moves.refl s)
  · have hok : mantissaOk 0 (BitVec.ofNat 4 (h + 1)) := by
      simp only [mantissaOk, BitVec.toNat_ofNat, BitVec.ofNat_eq_ofNat]; omega
    split
    · next hsub => exact goto_moves hc htop fun hx => ⟨by rw [hsub] at hx; exact hx, hok⟩
    · exact withUser_ends fun _ _ hsub => goto_at_moves hc htop hsub fun _ => hok

theorem mnemonicNibble_ends (hc : W .codec = true) (htop : s.codec.top = .inCommand) (m : Fin 15) :
    (mnemonicNibble m s).Ends (Moves W s) := by
  unfold mnemonicNibble
  dsimp only
  split
  · exact copyDone_moves hc htop _
  · exact raise_ends _ (Moves.refl s)

/-- The bookkeeping registers after the entry value `e` is cached (R323). -/
def Context.cached (e : Byte) (x : Context) : Context := { x with cmapLru := touch x.cmapLru e }

theorem setCtx_setCmd_goto (f : Context → Context) (g : Command → Command) (x : Substate) (s : State) :
    ((s.setCtx f).setCmd g).goto x = s.withCodec x (g s.codec.cmd) (f s.ctx) := rfl

theorem setCtx_setCmd_commit (f : Context → Context) (g : Command → Command) (s : State) :
    ((s.setCtx f).setCmd g).commit =
      s.withCodec .fullyDecoded (g s.codec.cmd) ((f s.ctx).committed (g s.codec.cmd)) := rfl

/-- The three ways an entry completes: the next entry, the next map, the commit (R323, R324). -/
theorem entryDone_cases (mi : MapId) (j : Nat) (e : Byte) (s : State) :
    entryDone mi j e s =
        s.withCodec (.mapEntryMnemonic mi (j + 1)) (setMapEntry mi j e s.codec.cmd) (s.ctx.cached e) ∨
      entryDone mi j e s =
        s.withCodec (.mapCount .distance .small) (setMapEntry mi j e s.codec.cmd) (s.ctx.cached e) ∨
      entryDone mi j e s = s.withCodec .fullyDecoded (setMapEntry mi j e s.codec.cmd)
        ((s.ctx.cached e).committed (setMapEntry mi j e s.codec.cmd)) := by
  have hdone : entryDone mi j e s =
      let u := (s.setCtx (Context.cached e)).setCmd (setMapEntry mi j e)
      if j + 1 < (commandMap u.codec.cmd mi).length then u.goto (.mapEntryMnemonic mi (j + 1))
      else if mi = .literal then u.goto (.mapCount .distance .small)
      else u.commit := rfl
  rw [hdone]
  dsimp only
  split
  · exact .inl (setCtx_setCmd_goto _ _ _ s)
  · split
    · exact .inr (.inl (setCtx_setCmd_goto _ _ _ s))
    · exact .inr (.inr (setCtx_setCmd_commit _ _ s))

theorem entryDone_moves (hc : W .codec = true) (htop : s.codec.top = .inCommand)
    (hkind : s.codec.substate.ofCommand s.codec.cmd → s.codec.cmd.kind = 7) (mi : MapId) (j : Nat) (e : Byte) :
    Moves W s (entryDone mi j e s) := by
  have hset : (setMapEntry mi j e s.codec.cmd).kind = s.codec.cmd.kind := setCommandMap_kind _ _ _
  have hcached : s.ctx.Update (s.ctx.cached e) := ⟨id, id, rfl, rfl⟩
  rcases entryDone_cases mi j e s with h | h | h <;> rw [h]
  · exact withCodec_moves hc htop hset (fun hx => hset.trans (hkind hx)) hcached
  · exact withCodec_moves hc htop hset (fun hx => ⟨hset.trans (hkind hx), trivial⟩) hcached
  · exact withCodec_moves hc htop hset (fun _ => trivial) (hcached.trans (Context.update_committed _ _))

theorem withEntry_ends {P : State → Prop} {k : MapId → Nat → Reply Unit}
    (h : ∀ mi j, s.codec.substate = .mapEntryMnemonic mi j → (k mi j).Ends P) : (withEntry s k).Ends P := by
  unfold withEntry
  split
  · exact h _ _ ‹_›
  · trivial

theorem cmapRecent_ends (hc : W .codec = true) (htop : s.codec.top = .inCommand) (m : Fin 13) :
    (cmapRecent m s).Ends (Moves W s) :=
  withEntry_ends fun _ _ hsub => entryDone_moves hc htop (fun h => by rw [hsub] at h; exact h) _ _ _

theorem cmapEscape_ends (hc : W .codec = true) (htop : s.codec.top = .inCommand) :
    (cmapEscape s).Ends (Moves W s) :=
  withEntry_ends fun _ _ hsub => goto_moves hc htop fun h => by rw [hsub] at h; exact h

theorem highEntropyFlag_ends (hc : W .codec = true) (htop : s.codec.top = .inCommand)
    (hsub : s.codec.substate = .literalHighEntropy) (he : Bool) : (highEntropyFlag he s).Ends (Moves W s) := by
  refine setCmd_goto_moves hc htop rfl fun h => ?_
  rw [hsub] at h
  split
  · trivial
  · next hlen =>
    refine ⟨h, ?_⟩
    show 0 < 2 * s.codec.cmd.len.toNat
    have : s.codec.cmd.len.toNat ≠ 0 := fun h0 => hlen (BitVec.eq_of_toNat_eq h0)
    omega

theorem predModeField_ends (hc : W .codec = true) (htop : s.codec.top = .inCommand)
    (hsub : s.codec.substate = .predMode) (pm : BitVec 2) : (predModeField pm s).Ends (Moves W s) :=
  setCmd_goto_moves hc htop rfl fun h => by rw [hsub] at h; exact h

theorem speedField_ends (hc : W .codec = true) (htop : s.codec.top = .inCommand)
    (hsub : s.codec.substate = .predSpeedStride ∨ s.codec.substate = .predSpeedCm) (v : BitVec 3) :
    (speedField v s).Ends (Moves W s) := by
  have hkind (h : s.codec.substate.ofCommand s.codec.cmd) : s.codec.cmd.kind = 7 := by
    rcases hsub with hsub | hsub <;> rw [hsub] at h <;> exact h
  unfold speedField
  split
  · exact setCmd_goto_moves hc htop rfl hkind
  · exact setCmd_goto_moves hc htop rfl fun h => ⟨hkind h, trivial⟩

theorem beginCommand_ends (hc : W .codec = true) (htop : s.codec.top ≠ .topEof) {t : Nibble}
    (ht : t ∈ commandKinds) : (beginCommand t s).Ends (Moves W s) := by
  unfold beginCommand
  split
  · exact (Move.opened (c := Command.blank t) htop ht).moves hc
  · exact (Move.opened (c := { s.codec.cmd with kind := t }) htop ht).moves hc

/-- The effect of the nibble `v` of the table `t`, by ranges of nibbles (R97, R99 to R104). -/
def rowBody (t : NibbleTable) (v : Nibble) : State → Reply Unit :=
  match t with
  | .cmdType => if v ∈ commandKinds then beginCommand v else raise .malformedCommandType
  | .small =>
    if v.toNat ≤ 9 then smallDone (v.setWidth 32)
    else if v = 10 then smallGoto .first
    else if v = 11 then smallGoto .greater
    else if v = 12 then smallEscape
    else if v = 13 then smallGoto .mantissaHeader
    else raise .reservedNibbleCode
  | .firstCopy => firstNibble v.toNat
  | .greaterCopy => greaterNibble v.toNat
  | .firstLit => firstNibble v.toNat
  | .greaterLit => greaterNibble v.toNat
  | .header => headerNibble v.toNat
  | .distMnemonic => if h : v.toNat < 15 then mnemonicNibble ⟨v.toNat, h⟩ else mnemonicEscape
  | .cmapEntry =>
    if h : v.toNat < 13 then cmapRecent ⟨v.toNat, h⟩
    else if v = 13 then cmapEscape
    else raise .reservedNibbleCode
  | .highEntropy => 
    if v = 0 then highEntropyFlag false else if v = 1 then highEntropyFlag true else raise .reservedNibbleCode
  | .predMode => if v.toNat < 4 then predModeField (v.setWidth 2) else raise .predictionModeOutOfRange
  | .speed => if v.toNat < 8 then speedField (v.setWidth 3) else raise .reservedNibbleCode

/-- The rows of the tables are the bodies, nibble by nibble. -/
theorem nibbleMeaning_eq (t : NibbleTable) (v : Nibble) (s : State) :
    nibbleMeaning t v s = atTable t (rowBody t v) s := by
  obtain ⟨⟨n, hn⟩⟩ := v
  cases t <;> interval_cases n <;> rfl

end

section
variable {W : Part → Bool} {s : State}

/-- Where its table is read, a row is made of moves of the codec. -/
theorem rowBody_ends (hc : W .codec = true) {t : NibbleTable} (v : Nibble) (h : s.expects = some t) :
    (rowBody t v s).Ends (Moves W s) := by
  have fails (c : Cause) : (raise c s : Reply Unit).Ends (Moves W s) := raise_ends c (Moves.refl s)
  by_cases htype : t = .cmdType
  · subst htype
    unfold rowBody
    dsimp only
    split
    · exact beginCommand_ends hc (State.expects_not_topEof h) ‹_›
    · exact fails _
  obtain ⟨htop, htable⟩ := State.expects_inCommand h htype
  cases t with
  | cmdType => exact absurd rfl htype
  | small =>
    unfold rowBody
    dsimp only
    repeat' split
    · exact smallDone_ends hc htop _
    · exact smallGoto_ends hc htop trivial
    · exact smallGoto_ends hc htop trivial
    · exact smallEscape_ends hc htop
    · exact smallGoto_ends hc htop trivial
    · exact fails _
  | firstCopy => exact firstNibble_ends hc htop _
  | greaterCopy => exact greaterNibble_ends hc htop _
  | firstLit => exact firstNibble_ends hc htop _
  | greaterLit => exact greaterNibble_ends hc htop _
  | header => exact headerNibble_ends hc htop _
  | distMnemonic =>
    have hsub : s.codec.substate = .distanceLengthMnemonic := by
      simpa using Substate.table_cases htable (by decide)
    unfold rowBody
    dsimp only
    split
    · exact mnemonicNibble_ends hc htop _
    · exact goto_moves hc htop fun hx => by rw [hsub] at hx; exact hx
  | cmapEntry =>
    unfold rowBody
    dsimp only
    repeat' split
    · exact cmapRecent_ends hc htop _
    · exact cmapEscape_ends hc htop
    · exact fails _
  | highEntropy =>
    have hsub : s.codec.substate = .literalHighEntropy := by
      simpa using Substate.table_cases htable (by decide)
    unfold rowBody
    dsimp only
    repeat' split
    · exact highEntropyFlag_ends hc htop hsub _
    · exact highEntropyFlag_ends hc htop hsub _
    · exact fails _
  | predMode =>
    have hsub : s.codec.substate = .predMode := by simpa using Substate.table_cases htable (by decide)
    unfold rowBody
    dsimp only
    split
    · exact predModeField_ends hc htop hsub _
    · exact fails _
  | speed =>
    have hsub : s.codec.substate = .predSpeedStride ∨ s.codec.substate = .predSpeedCm := by
      simpa using Substate.table_cases htable (by decide)
    unfold rowBody
    dsimp only
    split
    · exact speedField_ends hc htop hsub _
    · exact fails _

/-- A row inside a running command is made of moves of the codec. -/
theorem applyRow_ends (hc : W .codec = true) (t : NibbleTable) (v : Nibble) :
    (applyRow t v s).Ends (Moves W s) := by
  unfold applyRow
  rw [nibbleMeaning_eq]
  rcases atTable_cases t (rowBody t v) s with ⟨h, hrow⟩ | ⟨-, hrow⟩ <;> rw [hrow]
  · have goesOn {u : State} (hu : Moves W s u) :
        (if u.ctl.failed then .fail u else .ok () u : Reply Unit).Ends (Moves W s) := by
      rw [hu.failed_eq, State.expects_not_failed h]
      exact hu
    have hends := rowBody_ends hc v h
    cases hbody : rowBody t v s <;> rw [hbody] at hends
    case ok => exact goesOn hends
    case wait => exact goesOn hends
    case fail =>
      obtain ⟨c, u, hu, rfl⟩ := hends
      exact ⟨c, u, hu, rfl⟩
    case refused => trivial
    case fault => trivial
  · trivial

/-! ### Codec steps -/

/-- The parts a command operation writes are among `W`. -/
structure Part.Commands (W : Part → Bool) : Prop extends Part.Coder W where
  model : W .model = true
  codec : W .codec = true

/-- Code a nibble and go on where nothing but the coder and the cell has changed. -/
theorem codeNibble_bind_ends (hW : Part.Commands W) {a : Nat} {speed : BitVec 3} {want : Nibble}
    {k : Nibble → State → Reply Unit}
    (hk : ∀ v u, u.codec = s.codec → u.ctx = s.ctx → (k v u).Ends (Moves W u)) :
    ((codeNibble a speed want s).bind k).Ends (Moves W s) :=
  (codeNibble_ends hW.toCoder hW.model a speed want).bindMoves fun v u hu _ =>
    have ⟨hcodec, hctx, _⟩ := codeNibble_frame hu
    hk v u hcodec hctx

theorem tableStep_ends (hW : Part.Commands W) (t : NibbleTable) (a : Nat) (speed : BitVec 3) (want : Nibble) :
    (tableStep t a speed want s).Ends (Moves W s) :=
  codeNibble_bind_ends hW fun v _ _ _ => applyRow_ends hW.codec t v

/-- With more than one nibble remaining, one more may be counted as decoded (R268). -/
theorem mantissaOk_next {ld lr : BitVec 4} (h : mantissaOk ld lr) (hlr : ¬ lr.toNat ≤ 1) :
    mantissaOk (ld + 1) (lr - 1) := by
  unfold mantissaOk at h ⊢
  bv_omega

theorem mantissaNibble_ends (hc : W .codec = true) (htop : s.codec.top = .inCommand) {u : IntUser}
    {ld lr : BitVec 4} {dsf : BitVec 32} (hsub : s.codec.substate = u.at (.mantissaNibbles ld lr dsf)) (n : Nibble) :
    (mantissaNibble u ld lr dsf n s).Ends (Moves W s) := by
  unfold mantissaNibble
  dsimp only
  split
  · exact complete_ends hc htop (kind_of_at hsub) _
  · exact goto_at_moves hc htop hsub fun h => mantissaOk_next h ‹_›

theorem intStep_ends (hW : Part.Commands W) (htop : s.codec.top = .inCommand) {u : IntUser} {stage : IntStage}
    (hsub : s.codec.substate = u.at stage) : (intStep u stage s).Ends (Moves W s) := by
  cases stage with
  | mantissaNibbles ld lr dsf =>
    exact codeNibble_bind_ends hW fun n v hcodec _ =>
      mantissaNibble_ends hW.codec (hcodec ▸ htop) (hcodec ▸ hsub) n
  | small => exact tableStep_ends hW _ _ _ _
  | first => exact tableStep_ends hW _ _ _ _
  | greater => exact tableStep_ends hW _ _ _ _
  | mantissaHeader => exact tableStep_ends hW _ _ _ _

/-- The type step lets only the kinds of R97 through; `Begin` goes to the first substate of the kind (R300). -/
theorem beginStep_ends (hc : W .codec = true) (htop : s.codec.top = .inCommand) :
    (beginStep s).Ends (Moves W s) := by
  have hgoto {x : Substate} {k : Nat} (hk : s.codec.cmd.kind.toNat = k)
      (hx : s.codec.cmd.kind = BitVec.ofNat 4 k → x.ofCommand s.codec.cmd) : Moves W s (s.goto x) :=
    goto_moves hc htop fun _ => hx (by rw [← hk, BitVec.ofNat_toNat, BitVec.setWidth_eq])
  unfold beginStep
  split
  · exact hgoto ‹_› id
  · exact hgoto ‹_› fun h => ⟨h, trivial⟩
  · exact hgoto ‹_› id
  · exact hgoto ‹_› .inl
  · exact hgoto ‹_› fun h => .inr (.inl h)
  · exact hgoto ‹_› fun h => .inr (.inr h)
  · exact hgoto ‹_› id
  · exact hgoto ‹_› fun _ => trivial
  · exact raise_ends _ (Moves.refl s)

theorem cmapSlot_ends {P : State → Prop} {map : Memory Byte} {len idx : Nat} {k : Nat → Reply Unit} (hs : P s)
    (hk : ∀ slot, (k slot).Ends P) : (cmapSlot map len idx s k).Ends P := by
  unfold cmapSlot
  repeat' split
  · exact hk 0
  · exact raise_ends _ hs
  · exact hk _

theorem withDistSlot_ends {P : State → Prop} {k : Nat → Reply Unit} (hs : P s) (hk : ∀ slot, (k slot).Ends P) :
    (withDistSlot s k).Ends P := cmapSlot_ends hs hk

theorem withLitSlot_ends {P : State → Prop} {k : Nat → Reply Unit} (hs : P s) (hk : ∀ slot, (k slot).Ends P) :
    (withLitSlot s k).Ends P := cmapSlot_ends hs hk

theorem distanceMantissaStep_ends (hW : Part.Commands W) (htop : s.codec.top = .inCommand) {ld lr : BitVec 4}
    {dsf : BitVec 32} (hsub : s.codec.substate = .distanceMantissaNibbles ld lr dsf) :
    (distanceMantissaStep ld lr dsf s).Ends (Moves W s) := by
  refine withDistSlot_ends (Moves.refl s) fun slot => ?_
  refine codeNibble_bind_ends hW fun n u hcodec _ => ?_
  have htop : u.codec.top = .inCommand := hcodec ▸ htop
  unfold distanceNibble
  dsimp only
  split
  · split
    · exact raise_ends _ (Moves.refl u)
    · exact copyDone_moves hW.codec htop _
  · refine goto_moves hW.codec htop fun h => ?_
    rw [hcodec, hsub] at h
    rw [hcodec]
    exact ⟨h.1, mantissaOk_next h.2 ‹_›⟩

/-- The end of a literal nibble changes nothing of the command but its data, and of the bookkeeping only the history
(R311, R312). -/
theorem literalDone_eq (idx : BitVec 33) (v : Nibble) (s : State) :
    ∃ data hist, literalDone idx v s =
      s.withCodec (if 2 * s.codec.cmd.len.toNat ≤ idx.toNat + 1 then .fullyDecoded else .literalNibbleIndex (idx + 1))
        { s.codec.cmd with data := data } { s.ctx with hist := hist } := by
  have hcmd (j : Nat) (new : Byte) : ∃ data,
      (if s.isDecode then s.setCmd fun c => { c with data := c.data.set j new } else s) =
        s.setCmd fun c => { c with data := data } := by
    split
    · exact ⟨s.codec.cmd.data.set j new, rfl⟩
    · exact ⟨s.codec.cmd.data, rfl⟩
  have hctx (u : State) (b : Byte) : ∃ hist,
      (if idx.toNat % 2 = 1 then u.setCtx fun x => { x with hist := histPush x.hist b } else u) =
        u.setCtx fun x => { x with hist := hist } := by
    split
    · exact ⟨histPush u.ctx.hist b, rfl⟩
    · exact ⟨u.ctx.hist, rfl⟩
  unfold literalDone
  dsimp only
  obtain ⟨data, hdata⟩ := hcmd (idx.toNat / 2)
    (if idx.toNat % 2 = 0 then v ++ (0 : Nibble) else dataByte s.codec.cmd (idx.toNat / 2) ||| v.setWidth 8)
  rw [hdata]
  obtain ⟨hist, hhist⟩ := hctx (s.setCmd fun c => { c with data := data })
    (dataByte (s.setCmd fun c => { c with data := data }).codec.cmd (idx.toNat / 2))
  rw [hhist]
  refine ⟨data, hist, ?_⟩
  by_cases hl : 2 * s.codec.cmd.len.toNat ≤ idx.toNat + 1
  · rw [if_pos hl]; exact if_pos hl
  · rw [if_neg hl]; exact if_neg hl

theorem literalDone_moves (hc : W .codec = true) (htop : s.codec.top = .inCommand) {idx : BitVec 33}
    (hsub : s.codec.substate = .literalNibbleIndex idx) (v : Nibble) : Moves W s (literalDone idx v s) := by
  obtain ⟨data, hist, h⟩ := literalDone_eq idx v s
  rw [h]
  refine withCodec_moves hc htop rfl (fun hx => ?_) ⟨id, id, rfl, rfl⟩
  rw [hsub] at hx
  obtain ⟨hkind, hidx⟩ := hx
  split
  · trivial
  · next hmore =>
    refine ⟨hkind, ?_⟩
    show (idx + 1).toNat < 2 * s.codec.cmd.len.toNat
    have := s.codec.cmd.len.isLt
    rw [BitVec.toNat_add, Nat.mod_eq_of_lt] <;> simp <;> omega

theorem mixedUpdate_moves (hW : Part.Commands W) (ni hctx a b : Nat) (v : Nibble) :
    Moves W s (mixedUpdate ni hctx a b v s) :=
  ((Move.weigh ni hctx _ _ s).moves hW.codec).trans
    (((Move.blend a v.toNat _ _).moves hW.model).trans ((Move.blend b v.toNat _ _).moves hW.model))

theorem literalStep_ends (hW : Part.Commands W) (htop : s.codec.top = .inCommand) {idx : BitVec 33}
    (hsub : s.codec.substate = .literalNibbleIndex idx) : (literalStep idx s).Ends (Moves W s) := by
  unfold literalStep
  split
  · refine (codeAgainst_ends hW.toCoder _ _).bindMoves fun v u hu _ => ?_
    obtain ⟨hcodec, -, -⟩ := codeAgainst_frame hu
    exact literalDone_moves hW.codec (hcodec ▸ htop) (hcodec ▸ hsub) v
  · have coded (mix : Cdf16) (want : Nibble) (ni hctx a b : Nat) :
        ((codeAgainst mix want (s.setMix mix)).bind fun v u =>
          .ok () (literalDone idx v (mixedUpdate ni hctx a b v u))).Ends (Moves W s) := by
      refine Reply.Ends.after ?_ ((Move.mix mix s).moves hW.model)
      refine (codeAgainst_ends hW.toCoder _ _).bindMoves fun v u hu _ => ?_
      obtain ⟨hcodec, -, -⟩ := codeAgainst_frame hu
      have htop' : (mixedUpdate ni hctx a b v u).codec.top = .inCommand := (congrArg Codec.top hcodec).trans htop
      have hsub' : (mixedUpdate ni hctx a b v u).codec.substate = .literalNibbleIndex idx :=
        (congrArg Codec.substate hcodec).trans hsub
      exact (mixedUpdate_moves hW ni hctx a b v).trans (literalDone_moves hW.codec htop' hsub' v)
    exact withLitSlot_ends (Moves.refl s) fun slot => coded _ _ _ _ _ _

theorem blockHighStep_ends (hW : Part.Commands W) (htop : s.codec.top = .inCommand)
    (hsub : s.codec.substate = .blockTypeHigh) : (blockHighStep s).Ends (Moves W s) := by
  refine codeNibble_bind_ends hW fun hi u hcodec _ => ?_
  obtain ⟨g, hg, hset⟩ := u.setDecoded_eq (f := fun c => { c with blockType := hi ++ (0 : Nibble) }) fun _ => rfl
  rw [hset]
  refine setCmd_goto_moves hW.codec (hcodec ▸ htop) (hg _) fun h => ?_
  rw [hcodec, hsub] at h
  rw [hcodec]
  show (g _).kind = 4 ∨ (g _).kind = 5 ∨ (g _).kind = 6
  rw [hg]
  exact h

/-- A block switch writes one block type and nothing else of the state. -/
theorem switchBlock_eq (s : State) :
    ∃ f : Context → Context, s.switchBlock = s.setCtx f ∧ ∀ x : Context, x.Update (f x) := by
  unfold State.switchBlock
  dsimp only
  split
  · exact ⟨_, rfl, fun _ => ⟨id, id, rfl, rfl⟩⟩
  · exact ⟨_, rfl, fun _ => ⟨id, id, rfl, rfl⟩⟩
  · exact ⟨_, rfl, fun _ => ⟨id, id, rfl, rfl⟩⟩
  · exact ⟨id, rfl, Context.Update.refl⟩

theorem blockLowStep_ends (hW : Part.Commands W) (htop : s.codec.top = .inCommand) :
    (blockLowStep s).Ends (Moves W s) := by
  refine codeNibble_bind_ends hW fun lo u hcodec _ => ?_
  obtain ⟨g, hg, hset⟩ := u.setDecoded_eq
    (f := fun c => { c with blockType := nibbleOf s.codec.cmd.blockType 0 ++ lo }) fun _ => rfl
  obtain ⟨f, hswitch, hf⟩ := switchBlock_eq (u.setCmd g)
  rw [hset, hswitch]
  exact withCodec_moves (x := .fullyDecoded) (c := g u.codec.cmd) hW.codec (hcodec ▸ htop) (hg _) (fun _ => trivial)
    (hf u.ctx)

theorem mapHighStep_ends (hW : Part.Commands W) (htop : s.codec.top = .inCommand) {mi : MapId} {j : Nat}
    (hsub : s.codec.substate = .mapEntryHigh mi j) : (mapHighStep mi j s).Ends (Moves W s) := by
  refine codeNibble_bind_ends hW fun hi u hcodec _ => ?_
  obtain ⟨g, hg, hset⟩ := u.setDecoded_eq (f := setMapEntry mi j (hi ++ (0 : Nibble))) fun _ => setCommandMap_kind _ _ _
  rw [hset]
  refine setCmd_goto_moves hW.codec (hcodec ▸ htop) (hg _) fun h => ?_
  rw [hcodec, hsub] at h
  exact (hg _).trans (hcodec ▸ h)

theorem mapLowStep_ends (hW : Part.Commands W) (htop : s.codec.top = .inCommand) {mi : MapId} {j : Nat}
    (hsub : s.codec.substate = .mapEntryLow mi j) : (mapLowStep mi j s).Ends (Moves W s) := by
  refine codeNibble_bind_ends hW fun lo u hcodec _ => ?_
  exact entryDone_moves hW.codec (hcodec ▸ htop) (fun h => by rw [hcodec, hsub] at h; exact hcodec ▸ h) _ _ _

/-- Every substate's step is made of moves. -/
theorem substateStep_ends (hW : Part.Commands W) (htop : s.codec.top = .inCommand) :
    (substateStep s).Ends (Moves W s) := by
  unfold substateStep
  cases hsub : s.codec.substate with
  | begin => exact beginStep_ends hW.codec htop
  | countDecoded =>
    exact withDistSlot_ends (Moves.refl s) fun _ => goto_moves (x := .distanceLengthMnemonic) hW.codec htop fun h => by
      rw [hsub] at h; exact h
  | distanceLengthMnemonic => exact withDistSlot_ends (Moves.refl s) fun _ => tableStep_ends hW _ _ _ _
  | distanceLengthFirst => exact withDistSlot_ends (Moves.refl s) fun _ => tableStep_ends hW _ _ _ _
  | distanceMantissaNibbles => exact distanceMantissaStep_ends hW htop hsub
  | literalHighEntropy => exact tableStep_ends hW _ _ _ _
  | literalNibbleIndex => exact literalStep_ends hW htop hsub
  | blockTypeHigh => exact blockHighStep_ends hW htop hsub
  | blockTypeLow => exact blockLowStep_ends hW htop
  | predMode => exact tableStep_ends hW _ _ _ _
  | predSpeedStride => exact tableStep_ends hW _ _ _ _
  | predSpeedCm => exact tableStep_ends hW _ _ _ _
  | mapEntryMnemonic => exact tableStep_ends hW _ _ _ _
  | mapEntryHigh => exact mapHighStep_ends hW htop hsub
  | mapEntryLow => exact mapLowStep_ends hW htop hsub
  | fullyDecoded => exact Moves.refl s
  | _ => exact intStep_ends hW htop hsub

theorem codecStep_ends (hW : Part.Commands W) : (codecStep s).Ends (Moves W s) := by
  unfold codecStep
  split
  · exact tableStep_ends hW _ _ _ _
  · exact substateStep_ends hW ‹_›
  · exact raise_ends _ (Moves.refl s)

/-- The loop of a command is made of moves, however many steps it runs. -/
theorem runCodec_ends (hW : Part.Commands W) (n : Nat) : (runCodec n s).Ends (Moves W s) := by
  induction n generalizing s with
  | zero => trivial
  | succ n ih =>
    unfold runCodec
    split
    · next h => exact (Move.closed h.1).moves hW.codec
    · exact (codecStep_ends hW).bindMoves fun _ _ _ _ => ih

theorem latchCommand_ends (hc : W .codec = true) (c : Command) : (latchCommand c s).Ends (Moves W s) := by
  unfold latchCommand
  split
  · split
    · exact (Move.latch c ‹_›).moves hc
    · exact raise_ends _ (Moves.refl s)
  · exact Moves.refl s

end

end Sys2Proof.Machine
end

section
/-! SUPPORT. Everything an instruction and a step can do, in terms of moves. -/

namespace Sys2Proof.Machine

/-! ### Operations -/

/-- Where the body of an operation with the parts `W` starts: a session that has not failed, locked unless the operation
is a non-locking one, and none of those counts symbols (R349, R363). -/
def State.enters (W : Part → Bool) (s e : State) : Prop :=
  s.ctl.failed = false ∧ (e = s.lock ∨ (e = s ∧ W .ans2 = false))

/-- Everything an operation whose body moves the parts `W` can do (R363, R372): answer in a failed session, fail before
it moves anything, or answer or fail after the moves of its body. -/
inductive Performed (W : Part → Bool) (s : State) : State → Prop
  | refused (hf : s.ctl.failed = true) : Performed W s s.refuseFailed
  | rejected (c : Cause) (hf : s.ctl.failed = false) : Performed W s (s.failEntry c)
  | answered {e u : State} (r : Result) (ret : Returns) (he : s.enters W e) (hu : Moves W e u) :
      Performed W s (u.answer r ret)
  | raised {e u : State} (c : Cause) (he : s.enters W e) (hu : Moves W e u) : Performed W s (u.failEntry c)

theorem Reply.Ends.performed {W : Part → Bool} {s e t : State} {x : Reply Returns} (h : x.Ends (Moves W e))
    (he : s.enters W e) (ht : x.outcome = .next t) : Performed W s t := by
  rcases Reply.outcome_eq_next.mp ht with ⟨ret, u, rfl, rfl⟩ | ⟨w, u, rfl, rfl⟩ | rfl
  · exact .answered _ _ he h
  · exact .answered _ _ he h
  · obtain ⟨c, u, hu, rfl⟩ := h
    exact .raised c he hu

/-- An operation whose body is made of moves does one of the things an operation can do. -/
theorem runOp_performed {W : Part → Bool} {legal : Legal} {locking : Bool} {body : State → Reply Returns} {s t : State}
    (h : runOp legal locking body s = .next t) (hlock : W .ans2 = true → locking = true)
    (hbody : ∀ e, legal.allows e = true → (body e).Ends (Moves W e)) : Performed W s t := by
  rcases runOp_cases legal locking body s with ⟨hf, hrun⟩ | ⟨hf, -, hrun⟩ | ⟨hf, hl, hrun⟩ <;> rw [hrun] at h
  · cases h; exact .refused hf
  · cases h; exact .rejected _ hf
  · cases locking with
    | true =>
      have hallows : legal.allows s.lock = true := by cases legal <;> exact hl
      exact (hbody s.lock hallows).performed ⟨hf, .inl rfl⟩ h
    | false => exact (hbody s hl).performed ⟨hf, .inr ⟨rfl, by simpa using hlock⟩⟩ h

/-- The parts an operation may write, by the lists of writers. -/
def Part.writtenBy (i : Instr) : Part → Bool
  | .model => writesModel i
  | .ans1 => writesAns1 i
  | .ans2 => writesAns2 i
  | .queues => writesQueues i
  | .bitTree => writesBitTree i
  | .codec => writesCodec i
  | .encFinished => writesEncFinished i

/-- The parts a coded-nibble row writes. -/
def Part.writtenByRow : Part → Bool
  | .codec => true
  | _ => false

/-- The state after `SET_CFG` before it answers (R342). -/
def State.configured (cfg : BitVec 8) (s : State) : State :=
  { s with ctl := { s.ctl with cfg := cfg } }.sessionRegisters (cfg.getLsbD 0)

/-- Everything an instruction can do where it gives a next state. -/
inductive Executed (i : Instr) (s : State) : State → Prop
  | reset (hi : i = .reset) : Executed i s { State.reset with port := { s.port with response := ⟨.success, .nothing⟩ } }
  | status (resp : Response) (hi : i = .getStatus) : Executed i s { s with port := { s.port with response := resp } }
  | configured {cfg : BitVec 8} (hi : i = .setCfg cfg) (hf : s.ctl.failed = false) (hu : s.ctl.cfgLocked = false)
      (hl : legalCfg cfg = true) : Executed i s ((s.configured cfg).answer .success .nothing)
  | operation {t : State} (h : Performed (Part.writtenBy i) s t) : Executed i s t
  | row {t : State} (hi : isOperation i = false) (h : Moves Part.writtenByRow s t) : Executed i s t
  | rowRaised {u : State} (c : Cause) (hi : isOperation i = false) (h : Moves Part.writtenByRow s u) :
      Executed i s (u.failEntry c)

/-! ### The operations that are moves -/

theorem withCell_ends {α : Type} {P : State → Prop} {a : BitVec 16} {s : State} {k : Cdf16 → Reply α} (hs : P s)
    (hk : ∀ x, s.cell? a = some x → (k x).Ends P) : (withCell a s k).Ends P := by
  cases h : s.cell? a with
  | some x => rw [withCell_some h]; exact hk x h
  | none => rw [withCell_none h]; exact raise_ends _ hs

theorem commands_parts_encodeCmd (c : Command) : Part.Commands (Part.writtenBy (.encodeCmd c)) where
  ans1 := rfl
  ans2 := rfl
  queues := rfl
  bitTree := rfl
  model := rfl
  codec := rfl

theorem commands_parts_decodeCmd : Part.Commands (Part.writtenBy .decodeCmd) where
  ans1 := rfl
  ans2 := rfl
  queues := rfl
  bitTree := rfl
  model := rfl
  codec := rfl

theorem execEncodeCmd_performed {c : Command} {s t : State} (h : execEncodeCmd c s = .next t) :
    Performed (Part.writtenBy (.encodeCmd c)) s t := by
  refine runOp_performed h (fun _ => rfl) fun e _ => ?_
  split
  · exact raise_ends _ (Moves.refl e)
  · exact (latchCommand_ends rfl c).bindMoves fun _ u _ _ => (runCodec_ends (commands_parts_encodeCmd c) _).map

theorem execDecodeCmd_performed {s t : State} (h : execDecodeCmd s = .next t) :
    Performed (Part.writtenBy .decodeCmd) s t := by
  refine runOp_performed h (fun _ => rfl) fun e _ => ?_
  split
  · exact raise_ends _ (Moves.refl e)
  · exact (runCodec_ends commands_parts_decodeCmd _).bindMoves fun _ u _ _ => Moves.refl u

theorem execEncFinish_performed {s t : State} (h : execEncFinish s = .next t) :
    Performed (Part.writtenBy .encFinish) s t := by
  refine runOp_performed h (fun _ => rfl) fun e _ => ?_
  have finish (u : State) :
      Moves (Part.writtenBy .encFinish) u { u with ctl := { u.ctl with encFinished := true } } :=
    (Move.encFinished true u).moves rfl
  dsimp only
  split
  · exact raise_ends _ (Moves.refl e)
  · split
    · exact (symFlush_ends rfl rfl rfl).bindMoves fun _ u _ _ => finish u
    · exact (chunkFlush_ends rfl rfl).bindMoves fun _ u _ _ => finish u

/-- The cell of an address below `MIX` is the prior there (R90). -/
theorem State.eq_prior_of_cell? {s : State} {a : BitVec 16} {x : Cdf16} (h : s.cell? a = some x)
    (ha : a.toNat < Config.numPriors) : x = s.prior a.toNat := by
  rw [State.cell?, if_pos ha] at h
  exact (Option.some.inj h).symm

theorem execPBlend_performed {a : BitVec 16} {sym : Nibble} {speed : BitVec 3} {s t : State}
    (h : execPBlend a sym speed s = .next t) : Performed (Part.writtenBy (.pBlend a sym speed)) s t := by
  refine runOp_performed h (fun _ => rfl) fun e _ => withCell_ends (Moves.refl e) fun x hx => ?_
  show Moves _ e (e.setCell a (blend x sym.toNat speed))
  rcases State.setCell_cases a (blend x sym.toNat speed) e with ⟨ha, hset⟩ | ⟨-, hset⟩ <;> rw [hset]
  · rw [State.eq_prior_of_cell? hx ha]
    exact (Move.blend _ _ _ e).moves rfl
  · exact (Move.mix _ e).moves rfl

theorem execPWrite_performed {a : BitVec 16} {c : Cdf16} {s t : State} (h : execPWrite a c s = .next t) :
    Performed (Part.writtenBy (.pWrite a c)) s t := by
  refine runOp_performed h (fun _ => rfl) fun e _ => withCell_ends (Moves.refl e) fun _ _ => ?_
  split
  · show Moves _ e (e.setCell a c)
    rcases State.setCell_cases a c e with ⟨-, hset⟩ | ⟨-, hset⟩ <;> rw [hset]
    · exact (Move.writePrior _ ‹_› e).moves rfl
    · exact (Move.mix _ e).moves rfl
  · exact raise_ends _ (Moves.refl e)

theorem execPAverage_performed {a b w : BitVec 16} {s t : State} (h : execPAverage a b w s = .next t) :
    Performed (Part.writtenBy (.pAverage a b w)) s t := by
  refine runOp_performed h (fun _ => rfl) fun e _ => withCell_ends (Moves.refl e) fun _ _ =>
    withCell_ends (Moves.refl e) fun _ _ => ?_
  split
  · exact raise_ends _ (Moves.refl e)
  · exact (Move.mix _ e).moves rfl

theorem execSetCfg_executed {cfg : BitVec 8} {s t : State} (h : execSetCfg cfg s = .next t) :
    Executed (.setCfg cfg) s t := by
  rcases runOp_cases .always false _ s with ⟨hf, hrun⟩ | ⟨hf, -, hrun⟩ | ⟨hf, -, hrun⟩ <;>
    rw [execSetCfg, hrun] at h
  · cases h; exact .operation (.refused hf)
  · cases h; exact .operation (.rejected _ hf)
  · simp only [Bool.false_eq_true, if_false] at h
    split at h
    · cases h; exact .operation (.rejected _ hf)
    · split at h
      · cases h; exact .configured rfl hf (by simpa using ‹¬ s.ctl.cfgLocked = true›) ‹_›
      · cases h; exact .operation (.rejected _ hf)

/-! ### Rows -/

/-- An instruction that is no request is the row of its nibble. -/
theorem exec_eq_nibbleMeaning {i : Instr} {t : NibbleTable} {v : Nibble} (h : encode i = .nibble t v) (s : State) :
    exec i s = nibbleMeaning t v s := by
  cases i <;> cases h <;> rfl

theorem exec_row_executed {i : Instr} {s t : State} (hi : isOperation i = false) (h : exec i s = .next t) :
    Executed i s t := by
  cases henc : encode i with
  | request bytes => simp [isOperation, henc] at hi
  | nibble table v =>
    rw [exec_eq_nibbleMeaning henc, nibbleMeaning_eq] at h
    rcases atTable_cases table (rowBody table v) s with ⟨hx, hrow⟩ | ⟨-, hrow⟩ <;> rw [hrow] at h
    · have hends := rowBody_ends (W := Part.writtenByRow) rfl v hx
      cases hbody : rowBody table v s with
      | ok a u => rw [hbody] at h hends; cases h; exact .row hi hends
      | wait w u => rw [hbody] at h hends; cases h; exact .row hi hends
      | fail u =>
        rw [hbody] at h hends
        cases h
        obtain ⟨c, u, hu, rfl⟩ := hends
        exact .rowRaised c hi hu
      | refused r => rw [hbody] at h; cases h
      | fault f => rw [hbody] at h; cases h
    · cases h

/-! ### Every instruction -/

theorem isDecode_of_encode_allows {s : State} (h : Legal.encode.allows s = true) : s.isDecode = false := by
  simpa [Legal.allows] using h

/-- A check that fails the operation, before a piece made of moves. -/
theorem ite_raise_ends {α : Type} {P : State → Prop} {p : Prop} [Decidable p] {c : Cause} {s : State} {x : Reply α}
    (hs : P s) (hx : x.Ends P) : (if p then raise c s else x).Ends P := by
  split
  · exact raise_ends c hs
  · exact hx

/-- A locking operation whose body moves the parts it is listed for. -/
theorem Executed.ofLocking {i : Instr} {legal : Legal} {body : State → Reply Returns} {s t : State}
    (h : runOp legal true body s = .next t)
    (hbody : ∀ e, legal.allows e = true → (body e).Ends (Moves (Part.writtenBy i) e)) : Executed i s t :=
  .operation (runOp_performed h (fun _ => rfl) hbody)

/-- An operation that does not lock moves no counting register. -/
theorem Executed.ofNonLocking {i : Instr} {legal : Legal} {body : State → Reply Returns} {s t : State}
    (h : runOp legal false body s = .next t) (hi : Part.writtenBy i .ans2 = false)
    (hbody : ∀ e, legal.allows e = true → (body e).Ends (Moves (Part.writtenBy i) e)) : Executed i s t :=
  .operation (runOp_performed h (fun h2 => by rw [hi] at h2; cases h2) hbody)

/-- Every instruction that gives a next state does one of the things of `Executed`. -/
theorem exec_executed {i : Instr} {s t : State} (h : exec i s = .next t) : Executed i s t := by
  cases i with
  | reset => cases h; exact .reset rfl
  | setCfg cfg => exact execSetCfg_executed h
  | getStatus => cases h; exact .status _ rfl
  | encodeCmd c => exact .operation (execEncodeCmd_performed h)
  | decodeCmd => exact .operation (execDecodeCmd_performed h)
  | encFinish => exact .operation (execEncFinish_performed h)
  | bqNumPushAvail q => exact .ofNonLocking (show execBqNumPushAvail q s = _ from h) rfl fun e _ => Moves.refl e
  | bqNumPopAvail q => exact .ofNonLocking (show execBqNumPopAvail q s = _ from h) rfl fun e _ => Moves.refl e
  | bqPushData q src =>
    exact .ofNonLocking (show execBqPushData q src s = _ from h) rfl fun e _ => (Move.push q src e).moves rfl
  | bqPopData q len =>
    exact .ofNonLocking (show execBqPopData q len s = _ from h) rfl fun e _ => (Move.pop q len.toNat e).moves rfl
  | bEncodeInit =>
    exact .ofLocking (show execBEncodeInit s = _ from h) fun e _ => (Move.ans1 e.ans1.update_encodeInit).moves rfl
  | bEncode bit p => exact .ofLocking (show execBEncode bit p s = _ from h) fun e _ => (ansEncode_ends rfl bit p).map
  | bEncodeFlush => exact .ofLocking (show execBEncodeFlush s = _ from h) fun e _ => (ansFlush_ends rfl).map
  | bDecodeInit =>
    exact .ofLocking (show execBDecodeInit s = _ from h) fun e _ => (Move.ans1 e.ans1.update_decodeInit).moves rfl
  | bDecode p =>
    exact .ofLocking (show execBDecode p s = _ from h) fun e _ => ite_raise_ends (Moves.refl e) (Moves.refl e)
  | bDecodeWillAdvance x1 => exact .ofLocking (show execBDecodeWillAdvance x1 s = _ from h) fun e _ => Moves.refl e
  | bDecodeAdvance x1 =>
    exact .ofLocking (show execBDecodeAdvance x1 s = _ from h) fun e _ => (ansAdvance_ends rfl (Nat.le_refl _) _).map
  | bChunkPutBit bit p =>
    exact .ofLocking (show execBChunkPutBit bit p s = _ from h) fun e _ => (chunkPutBit_ends rfl rfl bit p).map
  | bChunkFlush => exact .ofLocking (show execBChunkFlush s = _ from h) fun e _ => (chunkFlush_ends rfl rfl).map
  | bChunkGetBit p =>
    exact .ofLocking (show execBChunkGetBit p s = _ from h) fun e _ => (chunkGetBit_ends rfl rfl p).map
  | b1memWrite addr byte =>
    exact .ofLocking (show execB1memWrite addr byte s = _ from h)
      fun e _ => (Move.ans1 (Ans1.update_writeMem addr.toNat [byte] e.ans1)).moves rfl
  | b1memRead addr => exact .ofLocking (show execB1memRead addr s = _ from h) fun e _ => Moves.refl e
  | nEncPut start freq =>
    exact .ofLocking (show execNEncPut start freq s = _ from h)
      fun e he => (symPut_ends rfl rfl (isDecode_of_encode_allows he) start freq).map
  | nFlushChunk => exact .ofLocking (show execNFlushChunk s = _ from h) fun e _ => (symFlush_ends rfl rfl rfl).map
  | nDecFill => exact .ofLocking (show execNDecFill s = _ from h) fun e _ => (symFill_ends rfl rfl).map
  | nDecGetOffset => exact .ofLocking (show execNDecGetOffset s = _ from h) fun e _ => (symOffset_ends rfl rfl).map
  | nDecAdvanceSym start freq =>
    exact .ofLocking (show execNDecAdvanceSym start freq s = _ from h)
      fun e he => (symAdvance_ends rfl he start freq).map
  | nPutBit bit p =>
    exact .ofLocking (show execNPutBit bit p s = _ from h)
      fun e he => (symPutBit_ends rfl rfl (isDecode_of_encode_allows he) bit p).map
  | nGetBit p => exact .ofLocking (show execNGetBit p s = _ from h) fun e he => (symGetBit_ends rfl rfl he p).map
  | pBlend a sym speed => exact .operation (execPBlend_performed h)
  | pAverage a b w => exact .operation (execPAverage_performed h)
  | pWrite a c => exact .operation (execPWrite_performed h)
  | pCdf a sym =>
    exact .ofLocking (show execPCdf a sym s = _ from h) fun e _ => withCell_ends (Moves.refl e) fun _ _ => Moves.refl e
  | pPdf a sym =>
    exact .ofLocking (show execPPdf a sym s = _ from h) fun e _ => withCell_ends (Moves.refl e) fun _ _ => Moves.refl e
  | pMax a =>
    exact .ofLocking (show execPMax a s = _ from h) fun e _ => withCell_ends (Moves.refl e) fun _ _ => Moves.refl e
  | pLogMax a =>
    exact .ofLocking (show execPLogMax a s = _ from h) fun e _ => withCell_ends (Moves.refl e) fun _ _ => Moves.refl e
  | pSymToStartFreq a sym =>
    exact .ofLocking (show execPSymToStartFreq a sym s = _ from h)
      fun e _ => withCell_ends (Moves.refl e) fun _ _ => Moves.refl e
  | pOffsetToSym a offset =>
    exact .ofLocking (show execPOffsetToSym a offset s = _ from h) fun e _ => withCell_ends (Moves.refl e) fun _ _ =>
      ite_raise_ends (Moves.refl e) (Moves.refl e)
  | pValid a =>
    exact .ofLocking (show execPValid a s = _ from h) fun e _ => withCell_ends (Moves.refl e) fun _ _ => Moves.refl e
  | pRead a =>
    exact .ofLocking (show execPRead a s = _ from h) fun e _ => withCell_ends (Moves.refl e) fun _ _ => Moves.refl e
  | p2Blend a2 bit speed =>
    exact .ofLocking (show execP2Blend a2 bit speed s = _ from h) fun e _ => (Move.blend2 a2 bit speed e).moves rfl
  | p2Prob a2 => exact .ofLocking (show execP2Prob a2 s = _ from h) fun e _ => Moves.refl e
  | p2OffsetToSym a2 offset =>
    refine .ofLocking (show execP2OffsetToSym a2 offset s = _ from h) fun e _ => ite_raise_ends (Moves.refl e) ?_
    dsimp only
    split
    · exact Moves.refl e
    · exact Moves.refl e
  | tPutNibble a nibble =>
    exact .ofLocking (show execTPutNibble a nibble s = _ from h) fun e he => withCell_ends (Moves.refl e) fun x _ =>
      (putNibble_ends ⟨rfl, rfl, rfl, rfl⟩ (isDecode_of_encode_allows he) x nibble).map
  | tGetNibble a =>
    exact .ofLocking (show execTGetNibble a s = _ from h) fun e he => withCell_ends (Moves.refl e) fun x _ =>
      (getNibble_ends ⟨rfl, rfl, rfl, rfl⟩ he x).map
  | tPutBit bit p =>
    exact .ofLocking (show execTPutBit bit p s = _ from h)
      fun e he => (putBit_ends rfl rfl rfl (isDecode_of_encode_allows he) bit p).map
  | tGetBit p => exact .ofLocking (show execTGetBit p s = _ from h) fun e he => (getBit_ends rfl rfl rfl he p).map
  | _ => exact exec_row_executed rfl h

end Sys2Proof.Machine
end

section
/-! SUPPORT. What a step can do, and the induction over it: a property that each kind of move and the ends of an
operation keep is kept by every step. -/

namespace Sys2Proof.Machine

/-- Everything a step can do: nothing, an instruction, or a refused request, which moves nothing (R21, R92). -/
theorem step_cases {s t : State} (h : step s = .next t) :
    t = s ∨ ∃ rest, (∃ i, Executed i (s.dequeue rest) t) ∨ Performed (fun _ => false) (s.dequeue rest) t := by
  unfold step at h
  split at h
  · cases h; exact .inl rfl
  · next bytes rest _ =>
    refine .inr ⟨rest, ?_⟩
    split at h
    · exact .inl ⟨_, exec_executed h⟩
    · next e _ =>
      rcases refuseRequest_cases e bytes (s.dequeue rest) with ⟨-, -, hr⟩ | ⟨-, -, hr⟩ | ⟨-, hr⟩ <;> rw [hr] at h
      · exact .inl ⟨_, .operation (execEncodeCmd_performed h)⟩
      · exact .inr (runOp_performed h nofun fun e _ => raise_ends _ (Moves.refl e))
      · exact .inr (runOp_performed h nofun fun e _ => raise_ends _ (Moves.refl e))

/-- A property that everything a step is made of keeps. -/
structure StepInvariant (I : State → Prop) : Prop where
  reset : I State.reset
  port : ∀ {s : State} (p : Port), I s → I { s with port := p }
  configured : ∀ {s : State} {cfg : BitVec 8}, s.ctl.cfgLocked = false → legalCfg cfg = true → I s →
    I (s.configured cfg)
  lock : ∀ {s : State}, I s → I s.lock
  result : ∀ {s : State} {r : Result}, (s.ctl.failed = true → r = .failure) → I s →
    I { s with ctl := { s.ctl with result := r } }
  fail : ∀ {s : State} (c : Cause), I s → I (s.failEntry c)
  move : ∀ {p : Part} {s t : State}, Move p s t → (p = .ans2 → s.ctl.cfgLocked = true) → I s → I t

namespace StepInvariant

variable {I : State → Prop} {W : Part → Bool} {s t u : State}

theorem moves (hI : StepInvariant I) (hm : Moves W s t) (hlock : W .ans2 = true → s.ctl.cfgLocked = true)
    (hs : I s) : I t := by
  have hkeeps : I t ∧ t.ctl.cfgLocked = s.ctl.cfgLocked := by
    refine hm.keeps (I := fun u => I u ∧ u.ctl.cfgLocked = s.ctl.cfgLocked) ?_ ⟨hs, rfl⟩
    rintro p u v hp hmove ⟨hu, hl⟩
    refine ⟨hI.move hmove (fun h2 => ?_) hu, (hmove.moves (W := W) hp).cfgLocked_eq.trans hl⟩
    subst h2
    exact hl.trans (hlock hp)
  exact hkeeps.1

theorem answer (hI : StepInvariant I) (r : Result) (ret : Returns) (hf : s.ctl.failed = false) (hs : I s) :
    I (s.answer r ret) :=
  hI.port ⟨s.port.requests, ⟨r, ret⟩⟩ (hI.result (fun h => by rw [hf] at h; cases h) hs)

/-- The body of an operation keeps the invariant. -/
theorem body (hI : StepInvariant I) {e : State} (he : s.enters W e) (hu : Moves W e u) (hs : I s) : I u := by
  obtain ⟨-, rfl | ⟨rfl, h2⟩⟩ := he
  · exact hI.moves hu (fun _ => rfl) (hI.lock hs)
  · exact hI.moves hu (fun h => by rw [h2] at h; cases h) hs

theorem performed (hI : StepInvariant I) (h : Performed W s t) (hs : I s) : I t := by
  cases h with
  | refused hf => exact hI.port ⟨s.port.requests, ⟨.failure, .nothing⟩⟩ (hI.result (fun _ => rfl) hs)
  | rejected c hf => exact hI.fail c hs
  | answered r ret he hu =>
    refine hI.answer r ret ?_ (hI.body he hu hs)
    obtain ⟨hf, rfl | ⟨rfl, -⟩⟩ := he
    · exact hu.failed_eq.trans hf
    · exact hu.failed_eq.trans hf
  | raised c he hu => exact hI.fail c (hI.body he hu hs)

theorem executed (hI : StepInvariant I) {i : Instr} (h : Executed i s t) (hs : I s) : I t := by
  cases h with
  | reset => exact hI.port _ hI.reset
  | status resp => exact hI.port ⟨s.port.requests, resp⟩ hs
  | configured _ hf hu hl =>
    refine hI.answer _ _ ?_ (hI.configured hu hl hs)
    unfold State.configured State.sessionRegisters
    split <;> exact hf
  | operation h => exact hI.performed h hs
  | row _ h => exact hI.moves h nofun hs
  | rowRaised c _ h => exact hI.fail c (hI.moves h nofun hs)

/-- Every step keeps the invariant. -/
theorem step (hI : StepInvariant I) (h : step s = .next t) (hs : I s) : I t := by
  rcases step_cases h with rfl | ⟨rest, ⟨i, h⟩ | h⟩
  · exact hs
  · exact hI.executed h (hI.port ⟨rest, s.port.response⟩ hs)
  · exact hI.performed h (hI.port ⟨rest, s.port.response⟩ hs)

/-- A property of the registers and memories beside the control registers and the port. -/
theorem of_components (hctl : ∀ {s : State} (c : Control) (p : Port), I s → I { s with ctl := c, port := p })
    (hreset : I State.reset) (hsession : ∀ {s : State} (decoding : Bool), I s → I (s.sessionRegisters decoding))
    (hmove : ∀ {p : Part} {s t : State}, Move p s t → I s → I t) : StepInvariant I where
  reset := hreset
  port := fun {s} p hs => hctl s.ctl p hs
  configured := fun {s} cfg _ _ hs => hsession _ (hctl { s.ctl with cfg := cfg } s.port hs)
  lock := fun {s} hs => hctl _ s.port hs
  result := fun {s} _ _ hs => hctl _ s.port hs
  fail := fun _ hs => hctl _ _ hs
  move := fun h _ hs => hmove h hs

end StepInvariant

/-! ### The memories -/

theorem State.memoriesCanonical_iff (s : State) :
    s.memoriesCanonical = true ↔
      s.queues.canonical ∧ s.ans1.canonical ∧ Memory.wf SymCell.zero s.ans2.symbuf = true ∧
        (Memory.wf defaultCdf s.model.priors = true ∧ Memory.wf defaultCdf2 s.model.cdf2s = true) ∧
          Memory.wf 0 s.ctx.litCmap = true ∧ Memory.wf 0 s.ctx.distCmap = true := by
  simp only [State.memoriesCanonical, Bool.and_eq_true, Queues.canonical, Ans1.canonical, and_assoc]

theorem Queues.canonical_push {qs : Queues} (q : Queue) (src : List Byte) (h : qs.canonical) :
    (qs.push q src).canonical := Queues.push_wf q src h.1 h.2

theorem Queues.canonical_pop {qs : Queues} (q : Queue) (len : Nat) (h : qs.canonical) :
    (qs.pop q len).canonical := by
  obtain ⟨hin, hout⟩ := qs.pop_memories q len
  unfold Queues.canonical
  rw [hin, hout]
  exact h

/-- Every move keeps every memory canonical. -/
theorem Move.memoriesCanonical {p : Part} {s t : State} (h : Move p s t) (hs : s.memoriesCanonical = true) :
    t.memoriesCanonical = true := by
  rw [State.memoriesCanonical_iff] at hs ⊢
  obtain ⟨hq, h1, h2, ⟨hpriors, hcdf2s⟩, hlit, hdist⟩ := hs
  cases h with
  | push q src => exact ⟨Queues.canonical_push q src hq, h1, h2, ⟨hpriors, hcdf2s⟩, hlit, hdist⟩
  | pop q len => exact ⟨Queues.canonical_pop q len hq, h1, h2, ⟨hpriors, hcdf2s⟩, hlit, hdist⟩
  | ans1 hu => exact ⟨hq, hu.canonical h1, h2, ⟨hpriors, hcdf2s⟩, hlit, hdist⟩
  | ans2 hu => exact ⟨hq, h1, hu.canonical h2, ⟨hpriors, hcdf2s⟩, hlit, hdist⟩
  | bitTree => exact ⟨hq, h1, h2, ⟨hpriors, hcdf2s⟩, hlit, hdist⟩
  | blend => exact ⟨hq, h1, h2, ⟨Memory.wf_write _ _ hpriors, hcdf2s⟩, hlit, hdist⟩
  | writePrior => exact ⟨hq, h1, h2, ⟨Memory.wf_write _ _ hpriors, hcdf2s⟩, hlit, hdist⟩
  | mix => exact ⟨hq, h1, h2, ⟨hpriors, hcdf2s⟩, hlit, hdist⟩
  | blend2 => exact ⟨hq, h1, h2, ⟨hpriors, Memory.wf_write _ _ hcdf2s⟩, hlit, hdist⟩
  | encFinished => exact ⟨hq, h1, h2, ⟨hpriors, hcdf2s⟩, hlit, hdist⟩
  | codec _ _ _ hctx => exact ⟨hq, h1, h2, ⟨hpriors, hcdf2s⟩, hctx.litCmap hlit, hctx.distCmap hdist⟩
  | weigh =>
    simp only [State.setCtx_queues, State.setCtx_ans1, State.setCtx_ans2, State.setCtx_model, State.setCtx_ctx,
      Context.setWeight_litCmap, Context.setWeight_distCmap]
    exact ⟨hq, h1, h2, ⟨hpriors, hcdf2s⟩, hlit, hdist⟩
  | latch => exact ⟨hq, h1, h2, ⟨hpriors, hcdf2s⟩, hlit, hdist⟩
  | opened => exact ⟨hq, h1, h2, ⟨hpriors, hcdf2s⟩, hlit, hdist⟩
  | closed =>
    unfold fullyDecodedStep
    split <;> exact ⟨hq, h1, h2, ⟨hpriors, hcdf2s⟩, hlit, hdist⟩

theorem memoriesCanonical_stepInvariant : StepInvariant fun s => s.memoriesCanonical = true :=
  .of_components (fun _ _ hs => hs) (by decide)
    (fun decoding hs => by cases decoding <;> exact hs) fun h hs => h.memoriesCanonical hs

/-- Settles O54: `memoriesCanonical` is kept by every move. -/
theorem stepKeepsMemoriesCanonical : Obligations.StepKeepsMemoriesCanonical :=
  fun _ _ hs h => memoriesCanonical_stepInvariant.step h hs

/-! ### The control registers -/

theorem legalCfg_iff (cfg : BitVec 8) :
    legalCfg cfg = true ↔ cfg.getLsbD 3 = false ∧ (cfg.getLsbD 1 = false → cfg.getLsbD 2 = false) := by
  have hbits : ∀ b1 b2 b3 : Bool,
      (!b3 && !(!b1 && b2)) = true ↔ b3 = false ∧ (b1 = false → b2 = false) := by decide
  exact hbits _ _ _

theorem State.sessionRegisters_ctl (decoding : Bool) (s : State) : (s.sessionRegisters decoding).ctl = s.ctl := by
  cases decoding <;> rfl

theorem State.configured_ctl (cfg : BitVec 8) (s : State) : (s.configured cfg).ctl = { s.ctl with cfg := cfg } :=
  State.sessionRegisters_ctl _ _

/-- Only `RESET` and `SET_CFG` write `CFG`, and `SET_CFG` writes a legal one (R34, R342). -/
theorem cfgLegal_stepInvariant : StepInvariant State.cfgLegal where
  reset := by unfold State.cfgLegal; decide
  port := fun _ hs => hs
  configured := fun {s cfg} _ hl _ => by
    unfold State.cfgLegal
    rw [State.configured_ctl]
    exact (legalCfg_iff cfg).mp hl
  lock := fun hs => hs
  result := fun _ hs => hs
  fail := fun _ hs => hs
  move := fun h _ hs => by
    unfold State.cfgLegal
    rw [h.ctl_eq]
    exact hs

theorem Cause.code_mem (c : Cause) : c.code ∈ ([1, 2, 3, 4, 6, 7, 8, 9, 10, 11, 12] : List (BitVec 8)) := by
  cases c <;> decide

/-- `FAILED` and `ERRCODE` are written only by the failure entry, together (R372). -/
theorem failureRecorded_stepInvariant : StepInvariant State.failureRecorded where
  reset := ⟨fun _ => rfl, nofun⟩
  port := fun _ hs => hs
  configured := fun {s cfg} _ _ hs => by
    unfold State.failureRecorded
    rw [State.configured_ctl]
    exact hs
  lock := fun hs => hs
  result := fun hr ⟨hok, hfailed⟩ => ⟨hok, fun hf => ⟨(hfailed hf).1, hr hf⟩⟩
  fail := fun {s} c ⟨_, hfailed⟩ => by
    refine ⟨nofun, fun _ => ⟨?_, rfl⟩⟩
    rw [State.failEntry_ctl]
    dsimp only
    split
    · next hf => exact (hfailed hf).1
    · exact c.code_mem
  move := fun h _ hs => by
    unfold State.failureRecorded
    rw [h.ctl_eq]
    exact hs

/-- Every move keeps the end-of-file mark consistent: only closing an end-of-file command sets it (R302). -/
theorem Move.eofConsistent {p : Part} {s t : State} (h : Move p s t) (hs : s.eofConsistent) : t.eofConsistent := by
  unfold State.eofConsistent at hs ⊢
  cases h with
  | codec htop _ _ hctx => simpa [hctx.eofSeen] using hs
  | opened htop _ => simpa [htop] using hs
  | closed htop =>
    have heof : s.ctx.eofSeen = false := by simpa [htop] using hs
    unfold fullyDecodedStep
    split <;> simp [heof]
  | weigh => rwa [State.setCtx_ctx, Context.setWeight_eofSeen]
  | _ => exact hs

theorem eofConsistent_stepInvariant : StepInvariant State.eofConsistent :=
  .of_components (fun _ _ hs => hs) (by unfold State.eofConsistent; decide)
    (fun decoding hs => by cases decoding <;> exact hs) fun h hs => h.eofConsistent hs

/-- Settles O55: each of the three properties is kept by every move and by the ends of an operation. -/
theorem stepKeepsControlRegisters : Obligations.StepKeepsControlRegisters :=
  fun _ _ hcfg hfail heof h =>
    ⟨cfgLegal_stepInvariant.step h hcfg, failureRecorded_stepInvariant.step h hfail,
      eofConsistent_stepInvariant.step h heof⟩

/-! ### The index and counting registers -/

theorem State.indicesInRange_iff (s : State) :
    s.indicesInRange ↔
      s.queues.inRange ∧ s.ans1.inRange ∧ s.ans2.inRange s.isDecode ∧
        (s.ctl.cfgLocked = false → s.ans2.symCount = 0) := by
  simp only [State.indicesInRange, Queues.inRange, Ans1.inRange, Ans2.inRange, and_assoc]

theorem Queues.inRange_push {qs : Queues} (q : Queue) (src : List Byte) (h : qs.inRange) :
    (qs.push q src).inRange := by
  obtain ⟨hrd, hwr, hlo⟩ := h
  cases q
  · refine ⟨hrd, ?_, hlo⟩
    simp only [Queues.push, BitVec.toNat_ofNat, Config.inSlots]
    omega
  · refine ⟨hrd, hwr, ?_⟩
    simp only [Queues.push, BitVec.toNat_ofNat]
    omega

theorem Queues.inRange_pop {qs : Queues} (q : Queue) (len : Nat) (h : qs.inRange) : (qs.pop q len).inRange := by
  obtain ⟨hrd, hwr, hlo⟩ := h
  cases q
  · refine ⟨?_, hwr, hlo⟩
    simp only [Queues.pop, BitVec.toNat_ofNat, Config.inSlots]
    omega
  · refine ⟨hrd, hwr, ?_⟩
    simp only [Queues.pop, Queues.popCount, Queues.popAvail, BitVec.toNat_ofNat, Config.outSize]
    omega

/-- Every move keeps the ranges; those of ANS2 come after the lock. -/
theorem Move.indicesInRange {p : Part} {s t : State} (h : Move p s t)
    (hlock : p = .ans2 → s.ctl.cfgLocked = true) (hs : s.indicesInRange) : t.indicesInRange := by
  rw [State.indicesInRange_iff] at hs ⊢
  obtain ⟨hq, h1, h2, hcount⟩ := hs
  cases h with
  | push q src => exact ⟨Queues.inRange_push q src hq, h1, h2, hcount⟩
  | pop q len => exact ⟨Queues.inRange_pop q len hq, h1, h2, hcount⟩
  | ans1 hu => exact ⟨hq, hu.inRange h1, h2, hcount⟩
  | ans2 hu => exact ⟨hq, h1, hu.inRange h2, fun hl => by simp [hlock rfl] at hl⟩
  | closed =>
    unfold fullyDecodedStep
    split <;> exact ⟨hq, h1, h2, hcount⟩
  | weigh =>
    simp only [State.setCtx_queues, State.setCtx_ans1, State.setCtx_ans2, State.setCtx_ctl, State.setCtx_isDecode]
    exact ⟨hq, h1, h2, hcount⟩
  | _ => exact ⟨hq, h1, h2, hcount⟩

theorem indicesInRange_stepInvariant : StepInvariant State.indicesInRange where
  reset := by unfold State.indicesInRange; decide
  port := fun _ hs => hs
  configured := fun {s cfg} hu _ hs => by
    rw [State.indicesInRange_iff] at hs ⊢
    obtain ⟨hq, ⟨_, hbits⟩, ⟨_, _, hpull, _⟩, hcount⟩ := hs
    have hzero : s.ans2.symCount.toNat = 0 := by rw [hcount hu]; rfl
    unfold State.configured State.sessionRegisters
    split
    · exact ⟨hq, ⟨Nat.zero_le _, hbits⟩, ⟨by simp [hzero], Nat.le_refl 16, hpull, fun _ => by simp [hzero]⟩, hcount⟩
    · exact ⟨hq, ⟨Nat.le_refl 65536, hbits⟩, ⟨by simp [hzero], Nat.zero_le _, hpull, fun _ => by simp [hzero]⟩, hcount⟩
  lock := fun {s} hs => by
    rw [State.indicesInRange_iff] at hs ⊢
    obtain ⟨hq, h1, h2, -⟩ := hs
    exact ⟨hq, h1, h2, nofun⟩
  result := fun _ hs => hs
  fail := fun _ hs => hs
  move := fun h hlock hs => h.indicesInRange hlock hs

/-- Settles O56: `indicesInRange` is kept by every move and by the ends of an operation. -/
theorem stepKeepsIndicesInRange : Obligations.StepKeepsIndicesInRange :=
  fun _ _ hs h => indicesInRange_stepInvariant.step h hs

/-! ### The sequence of a command -/

/-- Every move keeps the codec at a substate of its command. -/
theorem Move.sequenceOk {p : Part} {s t : State} (h : Move p s t) (hs : s.sequenceOk) : t.sequenceOk := by
  obtain ⟨hbetween, hinside⟩ := hs
  cases h with
  | codec htop hkind hsub _ =>
    obtain ⟨hk, hx⟩ := hinside htop
    exact ⟨fun hne => absurd htop hne, fun _ => ⟨hkind ▸ hk, hsub hx⟩⟩
  | latch c htop =>
    refine ⟨hbetween, fun hin => ?_⟩
    rw [State.setCmd_codec, htop] at hin
    cases hin
  | opened _ hkind => exact ⟨fun hne => absurd rfl hne, fun _ => ⟨hkind, trivial⟩⟩
  | closed =>
    unfold fullyDecodedStep
    split <;> exact ⟨fun _ => rfl, nofun⟩
  | _ => exact ⟨hbetween, hinside⟩

theorem sequenceOk_stepInvariant : StepInvariant State.sequenceOk :=
  .of_components (fun _ _ hs => hs) ⟨fun _ => rfl, nofun⟩
    (fun decoding hs => by cases decoding <;> exact hs) fun h hs => h.sequenceOk hs

/-- Settles O58: `sequenceOk` is kept by every move. -/
theorem stepKeepsSequence : Obligations.StepKeepsSequence :=
  fun _ _ hs h => sequenceOk_stepInvariant.step h hs

end Sys2Proof.Machine
end

section
/-! SUPPORT. The writers of each register, and the frame of every instruction. -/

namespace Sys2Proof.Machine

/-- The state with other values in what the ends of an operation write: the latched result, the failure record, the
lock and the response. -/
def State.latched (result : Result) (failed locked : Bool) (errcode : BitVec 8) (resp : Response) (s : State) : State :=
  { s with
    ctl := { s.ctl with result := result, failed := failed, cfgLocked := locked, errcode := errcode }
    port := { s.port with response := resp } }

/-- A reading of the state that sees nothing of what the ends of an operation write. -/
def Unlatched {β : Type} (f : State → β) : Prop :=
  ∀ result failed locked errcode resp s, f (s.latched result failed locked errcode resp) = f s

section
variable {β : Type} {f : State → β} {i : Instr} {s t : State}

theorem Unlatched.lock (hf : Unlatched f) (s : State) : f s.lock = f s :=
  hf s.ctl.result s.ctl.failed true s.ctl.errcode s.port.response s

theorem Unlatched.answer (hf : Unlatched f) (r : Result) (ret : Returns) (s : State) : f (s.answer r ret) = f s :=
  hf r s.ctl.failed s.ctl.cfgLocked s.ctl.errcode ⟨r, ret⟩ s

theorem Unlatched.fail (hf : Unlatched f) (c : Cause) (s : State) : f (s.failEntry c) = f s :=
  hf .failure true s.ctl.cfgLocked (if s.ctl.failed then s.ctl.errcode else c.code) ⟨.failure, .nothing⟩ s

theorem Unlatched.refuse (hf : Unlatched f) (s : State) : f s.refuseFailed = f s :=
  hf .failure s.ctl.failed s.ctl.cfgLocked s.ctl.errcode ⟨.failure, .nothing⟩ s

theorem Unlatched.status (hf : Unlatched f) (resp : Response) (s : State) :
    f { s with port := { s.port with response := resp } } = f s :=
  hf s.ctl.result s.ctl.failed s.ctl.cfgLocked s.ctl.errcode resp s

/-- A reading that the moves of the body leave unchanged is unchanged by the operation. -/
theorem Performed.frame {W : Part → Bool} (hf : Unlatched f) (h : Performed W s t)
    (hmoves : ∀ e u, e.ctl.cfg = s.ctl.cfg → Moves W e u → f u = f e) : f t = f s := by
  have body {e u : State} (he : s.enters W e) (hu : Moves W e u) : f u = f s := by
    obtain ⟨-, rfl | ⟨rfl, -⟩⟩ := he
    · exact (hmoves s.lock u rfl hu).trans (hf.lock s)
    · exact hmoves e u rfl hu
  cases h with
  | refused => exact hf.refuse s
  | rejected c => exact hf.fail c s
  | answered r ret he hu => exact (hf.answer r ret _).trans (body he hu)
  | raised c he hu => exact (hf.fail c _).trans (body he hu)

/-- A reading that `RESET`, `SET_CFG` and the moves of an instruction leave unchanged is unchanged by it. -/
theorem Executed.frame (hf : Unlatched f) (h : Executed i s t)
    (hreset : i = .reset → f { State.reset with port := { s.port with response := ⟨.success, .nothing⟩ } } = f s)
    (hcfg : ∀ cfg, i = .setCfg cfg → f (s.configured cfg) = f s)
    (hmoves : ∀ e u, e.ctl.cfg = s.ctl.cfg → Moves (Part.writtenBy i) e u → f u = f e)
    (hrow : isOperation i = false → ∀ u, Moves Part.writtenByRow s u → f u = f s) : f t = f s := by
  cases h with
  | reset hi => exact hreset hi
  | status resp => exact hf.status resp s
  | configured hi => exact (hf.answer _ _ _).trans (hcfg _ hi)
  | operation h => exact h.frame hf hmoves
  | row hi h => exact hrow hi t h
  | rowRaised c hi h => exact (hf.fail c _).trans (hrow hi _ h)

/-! ### What `SET_CFG` leaves unchanged -/

@[simp] theorem State.configured_model (cfg : BitVec 8) (s : State) : (s.configured cfg).model = s.model := by
  unfold State.configured State.sessionRegisters; split <;> rfl
@[simp] theorem State.configured_queues (cfg : BitVec 8) (s : State) : (s.configured cfg).queues = s.queues := by
  unfold State.configured State.sessionRegisters; split <;> rfl
@[simp] theorem State.configured_bt (cfg : BitVec 8) (s : State) : (s.configured cfg).bt = s.bt := by
  unfold State.configured State.sessionRegisters; split <;> rfl
@[simp] theorem State.configured_ctx (cfg : BitVec 8) (s : State) : (s.configured cfg).ctx = s.ctx := by
  unfold State.configured State.sessionRegisters; split <;> rfl
@[simp] theorem State.configured_codec (cfg : BitVec 8) (s : State) : (s.configured cfg).codec = s.codec := by
  unfold State.configured State.sessionRegisters; split <;> rfl
@[simp] theorem State.configured_port (cfg : BitVec 8) (s : State) : (s.configured cfg).port = s.port := by
  unfold State.configured State.sessionRegisters; split <;> rfl

/-! ### The control, tree and port registers -/

/-- Only `RESET` and `SET_CFG` write `CFG` (R34). -/
theorem Executed.cfg_eq (h : Executed i s t) (hreset : i ≠ .reset) (hcfg : ∀ cfg, i ≠ .setCfg cfg) :
    t.ctl.cfg = s.ctl.cfg :=
  h.frame (f := fun u => u.ctl.cfg) (fun _ _ _ _ _ _ => rfl) (fun hi => absurd hi hreset)
    (fun cfg hi => absurd hi (hcfg cfg))
    (fun _ _ _ hm => hm.cfg_eq) fun _ _ hm => hm.cfg_eq

theorem Executed.encFinished_eq (h : Executed i s t) (hw : writesEncFinished i = false) :
    t.ctl.encFinished = s.ctl.encFinished :=
  h.frame (f := fun u => u.ctl.encFinished) (fun _ _ _ _ _ _ => rfl) (by rintro rfl; cases hw)
    (fun cfg _ => by rw [State.configured_ctl])
    (fun _ _ _ hm => hm.encFinished_eq hw) fun _ _ hm => hm.encFinished_eq rfl

theorem Executed.bt_eq (h : Executed i s t) (hw : writesBitTree i = false) : t.bt = s.bt :=
  h.frame (f := State.bt) (fun _ _ _ _ _ _ => rfl) (by rintro rfl; cases hw) (fun cfg _ => s.configured_bt cfg)
    (fun _ _ _ hm => hm.bt_eq hw) fun _ _ hm => hm.bt_eq rfl

/-- In `DIRECT16` mode only `RESET` writes the nibble-tree registers (R26). -/
theorem Executed.bt_eq_of_direct16 (h : Executed i s t) (hreset : i ≠ .reset) (hd : s.direct16 = true) :
    t.bt = s.bt :=
  h.frame (f := State.bt) (fun _ _ _ _ _ _ => rfl) (fun hi => absurd hi hreset) (fun cfg _ => s.configured_bt cfg)
    (fun _ _ he hm => hm.bt_eq_of_direct16 (by rw [State.direct16, he]; exact hd)) fun _ _ hm => hm.bt_eq rfl

theorem Executed.requests_eq (h : Executed i s t) : t.port.requests = s.port.requests :=
  h.frame (f := fun u => u.port.requests) (fun _ _ _ _ _ _ => rfl) (fun _ => rfl)
    (fun cfg _ => by rw [State.configured_port])
    (fun _ _ _ hm => by rw [hm.port_eq]) fun _ _ hm => by rw [hm.port_eq]

/-! ### The components an operation does not write -/

/-- An operation leaves unchanged what its moves leave unchanged. -/
theorem Executed.operation_frame (hop : isOperation i = true) (hf : Unlatched f) (h : Executed i s t)
    (hreset : i ≠ .reset) (hcfg : ∀ cfg, i = .setCfg cfg → f (s.configured cfg) = f s)
    (hmoves : ∀ e u, Moves (Part.writtenBy i) e u → f u = f e) : f t = f s :=
  h.frame hf (fun hi => absurd hi hreset) hcfg (fun e u _ => hmoves e u) fun hi => by rw [hop] at hi; cases hi

theorem Executed.model_eq (hop : isOperation i = true) (h : Executed i s t) (hw : writesModel i = false) :
    t.model = s.model :=
  h.operation_frame (f := State.model) hop (fun _ _ _ _ _ _ => rfl) (by rintro rfl; cases hw)
    (fun cfg _ => s.configured_model cfg)
    fun _ _ hm => hm.model_eq hw

theorem Executed.ans1_eq (hop : isOperation i = true) (h : Executed i s t) (hw : writesAns1 i = false) :
    t.ans1 = s.ans1 :=
  h.operation_frame (f := State.ans1) hop (fun _ _ _ _ _ _ => rfl) (by rintro rfl; cases hw)
    (by rintro cfg rfl; cases hw)
    fun _ _ hm => hm.ans1_eq hw

theorem Executed.ans2_eq (hop : isOperation i = true) (h : Executed i s t) (hw : writesAns2 i = false) :
    t.ans2 = s.ans2 :=
  h.operation_frame (f := State.ans2) hop (fun _ _ _ _ _ _ => rfl) (by rintro rfl; cases hw)
    (by rintro cfg rfl; cases hw)
    fun _ _ hm => hm.ans2_eq hw

theorem Executed.queues_eq (hop : isOperation i = true) (h : Executed i s t) (hw : writesQueues i = false) :
    t.queues = s.queues :=
  h.operation_frame (f := State.queues) hop (fun _ _ _ _ _ _ => rfl) (by rintro rfl; cases hw)
    (fun cfg _ => s.configured_queues cfg)
    fun _ _ hm => hm.queues_eq hw

theorem Executed.ctx_eq (hop : isOperation i = true) (h : Executed i s t) (hw : writesCodec i = false) :
    t.ctx = s.ctx :=
  h.operation_frame (f := State.ctx) hop (fun _ _ _ _ _ _ => rfl) (by rintro rfl; cases hw)
    (fun cfg _ => s.configured_ctx cfg)
    fun _ _ hm => hm.ctx_eq hw

theorem Executed.codec_eq (hop : isOperation i = true) (h : Executed i s t) (hw : writesCodec i = false) :
    t.codec = s.codec :=
  h.operation_frame (f := State.codec) hop (fun _ _ _ _ _ _ => rfl) (by rintro rfl; cases hw)
    (fun cfg _ => s.configured_codec cfg)
    fun _ _ hm => hm.codec_eq hw

end

/-- Settles O60, clause by clause from the frames of `Executed`. -/
theorem onlyNamedWriters : Obligations.OnlyNamedWriters := by
  refine ⟨fun i s t h => ?_, fun i s t hop h => ?_⟩
  · have hx := exec_executed h
    exact ⟨hx.cfg_eq, hx.encFinished_eq, hx.bt_eq, hx.bt_eq_of_direct16, hx.requests_eq⟩
  · have hx := exec_executed h
    exact ⟨hx.model_eq hop, hx.ans1_eq hop, hx.ans2_eq hop, hx.queues_eq hop,
      fun hw => ⟨hx.ctx_eq hop hw, hx.codec_eq hop hw⟩⟩

end Sys2Proof.Machine
end

section
/-! SUPPORT. The index a search stops at, and the move to the front of the LRU arrays (R74). -/

namespace Sys2Proof.Machine

/-! ### The least index of a search -/

/-- Nothing below the least index is found. -/
theorem eq_false_of_lt_leastIndex {n : Nat} {p : Nat → Bool} {i : Nat} (h : i < leastIndex n p) : p i = false := by
  have hin : i < n := h.trans_le (leastIndex_le n p)
  unfold leastIndex at h
  cases hf : (List.range n).find? p with
  | none => simpa using List.find?_eq_none.mp hf i (List.mem_range.mpr hin)
  | some m =>
    rw [hf, Option.getD_some] at h
    simpa using (List.find?_range_eq_some.mp hf).2.2 i h

/-- The least index is the only place with nothing found before it, and something found at it unless it is the end. -/
theorem leastIndex_eq {n j : Nat} {p : Nat → Bool} (hjn : j ≤ n) (hbefore : ∀ i < j, p i = false)
    (hat : j < n → p j = true) : leastIndex n p = j := by
  have hle := leastIndex_le n p
  rcases lt_trichotomy (leastIndex n p) j with hlt | heq | hgt
  · exact absurd (leastIndex_spec (hlt.trans_le hjn)) (by simp [hbefore _ hlt])
  · exact heq
  · exact absurd (hat (hgt.trans_le hle)) (by simp [eq_false_of_lt_leastIndex hgt])

/-! ### The move to the front -/

section
variable {α : Type} [DecidableEq α] {n : Nat} (lru : Vector α (n + 1)) (v : α)

/-- The place `Touch` overwrites: the first one that holds `v` among all but the last, or else the last one (R74). -/
def touchedPlace : Nat := leastIndex n fun i => decide (lru[i]? = some v)

theorem getElem_touch (i : Fin (n + 1)) :
    (touch lru v)[i] =
      if i.val = 0 then v else if i.val ≤ touchedPlace lru v then lru[i.val - 1]'(by omega) else lru[i] := by
  have hget : (lru[i.val - 1]?).getD v = lru[i.val - 1]'(by omega) := by
    rw [Vector.getElem?_eq_getElem (by omega), Option.getD_some]
  rw [← hget]
  exact Vector.getElem_ofFn i.isLt

theorem touch_front : (touch lru v)[0] = v := getElem_touch lru v 0

variable {lru v} {i : Fin (n + 1)}

theorem touch_of_le_touchedPlace (h0 : 0 < i) (hi : i.val ≤ touchedPlace lru v) :
    (touch lru v)[i] = lru[i.val - 1]'(by omega) := by
  have : i.val ≠ 0 := Nat.ne_of_gt h0
  rw [getElem_touch, if_neg this, if_pos hi]

theorem touch_of_touchedPlace_lt (hi : touchedPlace lru v < i.val) : (touch lru v)[i] = lru[i] := by
  rw [getElem_touch, if_neg (by omega), if_neg (by omega)]

/-- What the search of `Touch` asks at a place. -/
theorem touch_search_iff (i : Fin (n + 1)) : decide (lru[i.val]? = some v) = true ↔ lru[i] = v := by
  rw [decide_eq_true_iff, Vector.getElem?_eq_getElem i.isLt, Option.some_inj, Fin.getElem_fin]

/-- No place before the overwritten one holds the value, and that one does unless it is the last. -/
theorem touchedPlace_eq {j : Fin (n + 1)} (hbefore : ∀ i : Fin (n + 1), i < j → lru[i] ≠ v)
    (hat : j.val < n → lru[j] = v) : touchedPlace lru v = j.val :=
  leastIndex_eq (Nat.le_of_lt_succ j.isLt)
    (fun i hi => Bool.eq_false_iff.mpr ((touch_search_iff ⟨i, hi.trans j.isLt⟩).not.mpr (hbefore _ hi)))
    fun h => (touch_search_iff j).mpr (hat h)

/-- An absent value pushes out the last place. -/
theorem touchedPlace_of_absent (habsent : ∀ i : Fin (n + 1), lru[i] ≠ v) : touchedPlace lru v = n :=
  touchedPlace_eq (j := Fin.last n) (fun i _ => habsent i) fun h => absurd h (lt_irrefl n)

end

/-- Settles O41: `getElem_touch`, with the overwritten place known in both cases. -/
theorem touchMovesToFront : Obligations.TouchMovesToFront := by
  intro α _ n lru v
  refine ⟨touch_front lru v, fun j hj hfirst i => ?present, fun habsent i h0 => ?absent⟩
  case present =>
    have hplace := touchedPlace_eq hfirst fun _ => hj
    exact ⟨fun hi => touch_of_touchedPlace_lt (hplace ▸ hi), fun h0 hi => touch_of_le_touchedPlace h0 (hplace ▸ hi)⟩
  case absent =>
    have hplace := touchedPlace_of_absent habsent
    exact touch_of_le_touchedPlace h0 (by omega)

end Sys2Proof.Machine
end

section
/-! SUPPORT. Decoding and encoding (R90, R97, R99 to R104; the layout of log 1): each way of reading an operand gives
back what the matching way of writing it wrote, and only gives operands a request can carry. -/

namespace Sys2Proof

open Sys2Proof.Machine

/-! ### Little-endian numbers -/

@[simp] theorem length_leBytes (n v : Nat) : (leBytes n v).length = n := by
  induction n generalizing v with
  | zero => rfl
  | succ n ih => simp [leBytes, ih]

/-- Reading back `n` bytes of a number gives its part below `256 ^ n` (R13, R63). -/
theorem fromLE_leBytes (n v : Nat) : fromLE (leBytes n v) = v % 256 ^ n := by
  induction n generalizing v with
  | zero => simp [leBytes, fromLE, Nat.mod_one]
  | succ n ih => rw [leBytes, fromLE, ih, BitVec.toNat_ofNat, pow_succ' 256 n, Nat.mod_mul (a := 256)]

/-! ### One operand -/

theorem two_pow_le_wordBytes (w : Nat) : 2 ^ w ≤ 256 ^ wordBytes w := by
  rw [show (256 : Nat) = 2 ^ 8 from rfl, ← pow_mul]
  exact Nat.pow_le_pow_right (by decide) (by unfold wordBytes; omega)

theorem fromLE_putWord {w : Nat} (x : BitVec w) : fromLE (putWord x) = x.toNat := by
  rw [putWord, fromLE_leBytes, Nat.mod_eq_of_lt (x.isLt.trans_le (two_pow_le_wordBytes w))]

@[simp] theorem length_putWord {w : Nat} (x : BitVec w) : (putWord x).length = wordBytes w := length_leBytes _ _

theorem takeBytes_append {xs : List Byte} {n : Nat} (h : xs.length = n) (rest : List Byte) :
    takeBytes n (xs ++ rest) = .ok (xs, rest) := by
  subst h
  simp [takeBytes]

@[simp] theorem takeWord_putWord {w : Nat} (x : BitVec w) (rest : List Byte) :
    takeWord w (putWord x ++ rest) = .ok (x, rest) := by
  unfold takeWord
  rw [takeBytes_append (length_putWord x)]
  simp only [fromLE_putWord, if_pos x.isLt, BitVec.ofNat_toNat, BitVec.setWidth_eq]

@[simp] theorem takeBit_putBit1 (b : Bool) (rest : List Byte) : takeBit (putBit1 b ++ rest) = .ok (b, rest) := by
  unfold takeBit putBit1
  rw [takeWord_putWord]
  cases b <;> rfl

@[simp] theorem takeQueue_putQueue (q : Queue) (rest : List Byte) :
    takeQueue (putQueue q ++ rest) = .ok (q, rest) := by
  unfold takeQueue putQueue
  rw [takeBit_putBit1]
  cases q <;> rfl

theorem takeList_putList {bs : List Byte} (h : countable bs = true) (rest : List Byte) :
    takeList (putList bs ++ rest) = .ok (bs, rest) := by
  have hlen : bs.length < 2 ^ 32 := by simpa [countable] using h
  have hput : putList bs = putWord (BitVec.ofNat 32 bs.length) ++ bs := by
    rw [putWord, BitVec.toNat_ofNat, Nat.mod_eq_of_lt hlen]
    rfl
  unfold takeList
  rw [hput, List.append_assoc, takeWord_putWord]
  exact takeBytes_append (by rw [BitVec.toNat_ofNat, Nat.mod_eq_of_lt hlen]) rest

/-- The `k`-th of the equally long pieces a list is made of. -/
theorem take_drop_flatMap {α β : Type} {f : α → List β} {m : Nat} (hf : ∀ a, (f a).length = m) (l : List α)
    {k : Nat} (hk : k < l.length) : (((l.flatMap f).drop (m * k)).take m) = f l[k] := by
  induction l generalizing k with
  | nil => simp at hk
  | cons a l ih =>
    cases k with
    | zero => simp [← hf a]
    | succ k =>
      rw [List.flatMap_cons, Nat.mul_succ, Nat.add_comm, ← List.drop_drop, List.drop_left' (hf a)]
      exact ih (Nat.lt_of_succ_lt_succ hk)

@[simp] theorem takeCell_putCell (x : Cdf16) (rest : List Byte) : takeCell (putCell x ++ rest) = .ok (x, rest) := by
  have hlen : (putCell x).length = 32 := by
    simp [putCell, List.length_flatMap, wordBytes]
  have hcell :
      (Vector.ofFn fun i : Fin 16 => BitVec.ofNat 16 (fromLE (((putCell x).drop (2 * i.val)).take 2))) = x := by
    refine Vector.ext fun i hi => ?_
    have hpiece := take_drop_flatMap (f := fun v : BitVec 16 => putWord v) (m := 2) (fun v => length_putWord v)
      x.toList (k := i) (by simpa using hi)
    rw [Vector.getElem_ofFn, putCell, hpiece, fromLE_putWord]
    simp
  unfold takeCell
  rw [takeBytes_append hlen]
  dsimp only
  rw [hcell]

/-! ### A command -/

@[simp] theorem ok_bind {ε α β : Type} (a : α) (k : α → Except ε β) :
    ((.ok a : Except ε α) >>= k) = k a := rfl

/-- A written command is read back with the fields of its kind (R42). -/
theorem takeCommand_putCommand {c : Command} (hdata : countable c.data = true) (hlit : countable c.litMap = true)
    (hdist : countable c.distMap = true) (rest : List Byte) :
    takeCommand (putCommand c ++ rest) = .ok (c.restrict, rest) := by
  unfold takeCommand putCommand Command.restrict
  rw [List.append_assoc, takeWord_putWord, ok_bind]
  dsimp only
  split
  all_goals
    simp only [*, List.append_assoc, List.nil_append, takeWord_putWord, takeBit_putBit1, takeList_putList, ok_bind]
    rfl

/-! ### A request -/

/-- Decoding the request of a well-formed operation gives it back, whatever bytes follow the operands (R90). -/
theorem decodeRequest_of_encode {i : Instr} {bytes : List Byte} (h : encode i = .request bytes) (hwf : i.wf = true)
    (rest : List Byte) : decodeRequest (bytes ++ rest) = .ok i := by
  cases i <;> cases h
  case encodeCmd c =>
    simp only [Instr.wf, Command.wf, Bool.and_eq_true, decide_eq_true_eq] at hwf
    obtain ⟨⟨⟨hkind, hdata⟩, hlit⟩, hdist⟩ := hwf
    simp [decodeRequest, decodeOperands, takeCommand_putCommand hdata hlit hdist, hkind]
  case bqPushData q src => simp [decodeRequest, decodeOperands, takeList_putList hwf]
  all_goals simp [decodeRequest, decodeOperands]

/-- Reading a coded nibble by its table gives its row. -/
theorem decodeNibble_of_encode {i : Instr} {t : NibbleTable} {v : Nibble} (h : encode i = .nibble t v) :
    decodeNibble t v = i := by
  cases i <;> cases h <;> rfl

/-- The word of a row is its nibble, with its table. -/
theorem encode_decodeNibble (t : NibbleTable) (v : Nibble) : encode (decodeNibble t v) = .nibble t v := by
  obtain ⟨⟨n, hn⟩⟩ := v
  cases t <;> interval_cases n <;> rfl

/-! ### What the decoder gives -/

/-- Whatever value `x` ends with has the property `P`. -/
def Yields {ε α : Type} (P : α → Prop) (x : Except ε α) : Prop := ∀ a, x = .ok a → P a

section
variable {ε α β : Type} {P : β → Prop}

theorem Yields.ok {b : β} (h : P b) : Yields P (.ok b : Except ε β) := fun _ hb => by cases hb; exact h

theorem Yields.error (e : ε) : Yields P (.error e : Except ε β) := nofun

theorem Yields.bind {x : Except ε α} {k : α → Except ε β} (h : ∀ a, x = .ok a → Yields P (k a)) :
    Yields P (x >>= k) := by
  cases x with
  | error e => exact .error e
  | ok a => exact h a rfl

end

/-- A list read from a request is as long as its 32-bit count says. -/
theorem takeList_countable {bs xs rest : List Byte} (h : takeList bs = .ok (xs, rest)) : countable xs = true := by
  unfold takeList takeBytes at h
  split at h
  · cases h
  · split at h
    · cases h
    · next n _ _ hlen =>
      cases h
      simpa [countable, List.length_take, Nat.min_eq_left (Nat.le_of_not_lt hlen)] using n.isLt

theorem Command.wf_of_restrict {c : Command} (hkind : c.restrict = c) (hdata : countable c.data = true := by rfl)
    (hlit : countable c.litMap = true := by rfl) (hdist : countable c.distMap = true := by rfl) : c.wf = true := by
  simp [Command.wf, hkind, hdata, hlit, hdist]

/-- A command read from a request has only the fields of its kind, and lists a request can count (R42). -/
theorem takeCommand_wf (bs : List Byte) : Yields (fun p => p.1.wf = true) (takeCommand bs) := by
  unfold takeCommand
  refine .bind fun ⟨kind, bs⟩ _ => ?_
  dsimp only
  split
  case h_1 hk =>
    exact .bind fun _ _ => .bind fun _ _ =>
      .ok (Command.wf_of_restrict (by simp [Command.restrict, hk, Command.blank]))
  case h_2 hk =>
    exact .bind fun _ _ => .bind fun _ _ => .bind fun _ _ => .bind fun _ _ =>
      .ok (Command.wf_of_restrict (by simp [Command.restrict, hk, Command.blank]))
  case h_3 hk =>
    exact .bind fun _ _ => .bind fun _ _ => .bind fun _ hdata =>
      .ok (Command.wf_of_restrict (by simp [Command.restrict, hk, Command.blank])
        (hdata := takeList_countable hdata))
  case h_4 hk | h_5 hk | h_6 hk =>
    exact .bind fun _ _ =>
      .ok (Command.wf_of_restrict (by simp [Command.restrict, hk, Command.blank]))
  case h_7 hk =>
    exact .bind fun _ _ => .bind fun _ _ => .bind fun _ _ => .bind fun _ hlit => .bind fun _ hdist =>
      .ok (Command.wf_of_restrict (by simp [Command.restrict, hk, Command.blank])
        (hlit := takeList_countable hlit) (hdist := takeList_countable hdist))
  case h_8 =>
    exact .ok (Command.wf_of_restrict (by simp [Command.restrict, *, Command.blank]))

/-- Every operation read from a request is well formed. Only `ENCODE_CMD` (code 0x03, the 4th row of R90) and
`BQ_PUSH_DATA` (code 0x12, the 9th) have anything to check; the 48th case is that of the reserved codes. -/
theorem decodeOperands_wf (op : Nat) (bs : List Byte) : Yields (fun i => i.wf = true) (decodeOperands op bs) := by
  unfold decodeOperands
  split
  case h_4 => exact .bind fun p hp => .ok (takeCommand_wf bs p hp)
  case h_9 => exact .bind fun _ _ => .bind fun _ hsrc => .ok (takeList_countable hsrc)
  case h_48 => exact .error _
  all_goals
    repeat' refine .bind fun _ _ => ?_
    exact .ok rfl

/-- A coded-nibble row carries no operand. -/
theorem wf_of_encode_nibble {i : Instr} {t : NibbleTable} {v : Nibble} (h : encode i = .nibble t v) : i.wf = true := by
  cases i <;> cases h <;> rfl

/-- Settles O3: operand by operand for the requests, row by row for the coded nibbles. -/
theorem decodeInvertsEncode : Obligations.DecodeInvertsEncode := by
  refine ⟨fun i hwf => ?_, fun w i h => ?_⟩
  · cases henc : encode i with
    | request bytes => exact List.append_nil bytes ▸ decodeRequest_of_encode henc hwf []
    | nibble t v => exact congrArg Except.ok (decodeNibble_of_encode henc)
  · cases w with
    | request bytes =>
      cases bytes with
      | nil => cases h
      | cons op bs => exact decodeOperands_wf _ _ i h
    | nibble t v =>
      cases h
      exact wf_of_encode_nibble (encode_decodeNibble t v)

end Sys2Proof
end

section
/-! SUPPORT. The rows of the value tables (R97, R99 to R104): what each kind of row leaves, for every user of its
table. -/

namespace Sys2Proof.Machine

section
variable {s : State}

/-! ### A row where its table is read -/

theorem exec_decodeNibble {t : NibbleTable} (h : s.expects = some t) (v : Nibble) :
    exec (decodeNibble t v) s = (rowBody t v s).rowOutcome := by
  rw [exec_eq_nibbleMeaning (encode_decodeNibble t v), nibbleMeaning_eq, atTable, if_pos h]

@[simp] theorem rowOutcome_raise (c : Cause) (s : State) : (raise c s).rowOutcome = .next (s.failEntry c) := rfl

/-- A row that is reserved under a condition. -/
theorem rowOutcome_ite_raise {p : Prop} [Decidable p] (c : Cause) {x : Reply Unit} {t : State}
    (hx : ¬ p → x.rowOutcome = .next t) :
    (if p then raise c s else x).rowOutcome = .next (if p then s.failEntry c else t) := by
  split
  · rfl
  · exact hx ‹_›

/-- Settles O37: the two groups of rows are the nibbles of `commandKinds` and the others. -/
theorem commandTypeRows : Obligations.CommandTypeRows := by
  refine fun s h => ⟨fun p hp => ?_, fun i hi => ?_⟩
  · have ⟨hrow, hkind⟩ : p.1 = decodeNibble .cmdType p.2 ∧ p.2 ∈ commandKinds := by
      revert p
      decide
    rw [hrow, exec_decodeNibble h, rowBody, if_pos hkind]
    rfl
  · have hrow : i ∈ ([0, 8, 9, 10, 11, 12, 13, 14] : List Nibble).map (decodeNibble .cmdType) := hi
    obtain ⟨v, hv, rfl⟩ := List.mem_map.mp hrow
    have hreserved : v ∉ commandKinds := by
      revert v
      decide
    rw [exec_decodeNibble h, rowBody, if_neg hreserved]
    rfl

/-! ### A complete integer -/

theorem withUser_at {u : IntUser} {stage : IntStage} (h : s.codec.substate = u.at stage) (k : IntUser → Reply Unit) :
    withUser s k = k u := by
  rw [withUser, h, u.intStage_at]

/-- A complete integer leaves what the user's rule says (R280, R303, R316, R321). -/
theorem complete_rowOutcome (u : IntUser) {v : Nat} (hv : v < 2 ^ 32) :
    (u.complete (BitVec.ofNat 32 v) s).rowOutcome = .next (intResult u v s) := by
  have htoNat : (BitVec.ofNat 32 v).toNat = v := by rw [BitVec.toNat_ofNat, Nat.mod_eq_of_lt hv]
  have hzero : BitVec.ofNat 32 v = 0 ↔ v = 0 := by rw [← BitVec.toNat_inj, htoNat]; rfl
  cases u with
  | copyCount => rfl
  | literalLen =>
    unfold IntUser.complete intResult
    dsimp only
    rw [htoNat]
    exact rowOutcome_ite_raise (p := Config.literalMaxLen < v) _ fun _ => rfl
  | dictField f => fin_cases f <;> rfl
  | mapCount mi =>
    unfold IntUser.complete
    dsimp only
    rw [htoNat]
    have hdecoded : (if s.isDecode then s.setCmd (setCommandMap mi (List.replicate v 0)) else s) =
        s.setCmd fun c => if s.isDecode then setCommandMap mi (List.replicate v 0) c else c := by
      split <;> rfl
    rw [hdecoded]
    by_cases h0 : v = 0
    · subst h0
      cases mi <;> exact rowOutcome_ite_raise _ fun _ => rfl
    · simp only [if_pos (hzero.not.mpr h0)]
      unfold intResult
      simp only [if_neg h0]
      cases mi <;> exact rowOutcome_ite_raise _ fun _ => rfl

/-! ### Small nibbles -/

theorem exec_small_value {u : IntUser} (h : s.expects = some .small) (hsub : s.codec.substate = u.at .small)
    {v : Nibble} (hv : v.toNat ≤ 9) : exec (decodeNibble .small v) s = .next (intResult u v.toNat s) := by
  rw [exec_decodeNibble h, rowBody, if_pos hv, smallDone, withUser_at hsub, ← BitVec.ofNat_toNat]
  exact complete_rowOutcome u (by omega)

/-! ### Later stages -/

/-- A First nibble completes the integer up to the one of `T1` (R265). -/
theorem firstNibble_rowOutcome {u : IntUser} {n : Nat} (hsub : s.codec.substate = u.at .first) (ht1 : u.t1 = 10 + n)
    (hn : n < 16) (f : Nat) :
    (firstNibble f s).rowOutcome =
      .next (if f ≤ n then intResult u (10 + f) s else s.failEntry .reservedNibbleCode) := by
  rw [firstNibble, withUser_at hsub, ht1]
  by_cases hf : f ≤ n
  · rw [if_neg (by omega), if_pos hf, complete_rowOutcome u (by omega)]
  · rw [if_pos (by omega), if_neg hf, rowOutcome_raise]

/-- A Greater nibble completes the integer up to the one of 24 (R266). -/
theorem greaterNibble_rowOutcome {u : IntUser} {t2 n : Nat} (hsub : s.codec.substate = u.at .greater) (ht2 : u.t2 = t2)
    (hn : t2 + n = 24) (g : Nat) :
    (greaterNibble g s).rowOutcome =
      .next (if g ≤ n then intResult u (t2 + g) s else s.failEntry .reservedNibbleCode) := by
  rw [greaterNibble, withUser_at hsub, ht2]
  by_cases hg : g ≤ n
  · rw [if_neg (by omega), if_pos hg, complete_rowOutcome u (by omega)]
  · rw [if_pos (by omega), if_neg hg, rowOutcome_raise]

/-- Only the count of a Copy has the copy style (R263). -/
theorem Substate.eq_at_of_copy_table {x : Substate} {stage : IntStage}
    (hstage : stage = .first ∨ stage = .greater) (h : x.table = stage.table true) : x = IntUser.copyCount.at stage := by
  rcases hstage with rfl | rfl
  all_goals
    cases x with
    | dictField f stage => cases stage <;> cases h
    | mapCount mi stage => cases stage <;> cases h
    | _ => cases h <;> rfl

/-- A user that reads a table of the literal style has that style (R100, R263). -/
theorem copyStyle_of_literal_table {u : IntUser} {stage : IntStage} {t : NibbleTable} (h : s.expects = some t)
    (ht : t = .firstLit ∨ t = .greaterLit) (hsub : s.codec.substate = u.at stage) : u.copyStyle = false := by
  have htable : stage.table u.copyStyle = some t := by
    rw [← u.at_table, ← hsub]
    exact (State.expects_inCommand h (by rcases ht with rfl | rfl <;> decide)).2
  rw [Bool.eq_false_iff]
  intro hcopy
  rw [hcopy] at htable
  rcases ht with rfl | rfl <;> cases stage <;> cases htable

/-- The number of nibbles a mantissa header announces (R101). -/
theorem ofNat_toNat_succ (v : Nibble) : BitVec.ofNat 4 (v.toNat + 1) = v + 1 := by
  rw [BitVec.ofNat_add, BitVec.ofNat_toNat, BitVec.setWidth_eq]
  rfl

/-- Settles O39: each table is read by the users of its style, and the style bounds the nibble. -/
theorem laterStageRows : Obligations.LaterStageRows := by
  refine ⟨fun s u k =>
      ⟨fun h => ?firstCopy, fun h => ?greaterCopy, fun h hsub => ?firstLit, fun h hsub => ?greaterLit⟩,
    fun s u v h => ⟨fun hv => ?reserved, fun hv hsub => ?distance, fun hv hsub => ?integer⟩⟩
  all_goals rw [exec_decodeNibble h, rowBody]
  case firstCopy =>
    have hsub := Substate.eq_at_of_copy_table (.inl rfl) (State.expects_inCommand h (by decide)).2
    exact firstNibble_rowOutcome hsub rfl (by decide) _
  case greaterCopy =>
    have hsub := Substate.eq_at_of_copy_table (.inr rfl) (State.expects_inCommand h (by decide)).2
    exact greaterNibble_rowOutcome hsub rfl (by decide) _
  case firstLit =>
    have hstyle := copyStyle_of_literal_table h (.inl rfl) hsub
    exact firstNibble_rowOutcome hsub (by rw [IntUser.t1, hstyle]; rfl) (by decide) _
  case greaterLit =>
    have hstyle := copyStyle_of_literal_table h (.inr rfl) hsub
    exact greaterNibble_rowOutcome hsub (by rw [IntUser.t2, hstyle]; rfl) (by decide) _
  case reserved => rw [headerNibble, if_pos hv]; rfl
  case distance => rw [headerNibble, if_neg (by omega), if_pos hsub, ofNat_toNat_succ]; rfl
  case integer =>
    have hne : s.codec.substate ≠ .distanceLengthFirst := by rw [hsub]; cases u <;> nofun
    rw [headerNibble, if_neg (by omega), if_neg hne, withUser_at hsub, ofNat_toNat_succ]; rfl

/-! ### Distances -/

/-- The value of a mnemonic is the one listed (R286). -/
theorem mnemonicValue_eq (lru : Vector (BitVec 32) 4) (m : Fin 15) :
    mnemonicValue lru m = (mnemonicValues lru)[m.val]! := by
  fin_cases m <;> rfl

theorem validDistance_iff (v : Int) : validDistance v = true ↔ 1 ≤ v ∧ v ≤ 4294967295 := by
  simp [validDistance]

/-- A mnemonic completes the Copy with its value, or fails (R287). -/
theorem exec_distMnemonic (h : s.expects = some .distMnemonic) {m : Nibble} (hm : m.toNat < 15) {v : Int}
    (hv : (mnemonicValues s.ctx.distanceLru)[m.toNat]! = v) :
    exec (decodeNibble .distMnemonic m) s =
      .next (if 1 ≤ v ∧ v ≤ 4294967295 then copyDone (BitVec.ofInt 32 v) s else s.failEntry .distanceOutOfRange) := by
  have hval : mnemonicValue s.ctx.distanceLru ⟨m.toNat, hm⟩ = v := (mnemonicValue_eq _ _).trans hv
  rw [exec_decodeNibble h, rowBody, dif_pos hm, mnemonicNibble, hval]
  simp only [validDistance_iff]
  split <;> rfl

/-- Settles O40: `exec_distMnemonic`, with the value in or out of the range of a distance. -/
theorem distanceRows : Obligations.DistanceRows := by
  intro s h
  refine ⟨exec_decodeNibble h 15, fun m hm => ?_⟩
  intro l v
  have hrow := exec_distMnemonic h (m := m) (by omega) (v := v) rfl
  clear_value v
  refine ⟨fun h1 h2 d hd => ?_, fun hout => ?_⟩
  · have hofInt : BitVec.ofInt 32 v = d := by
      rw [← hd, BitVec.ofInt_natCast, BitVec.ofNat_toNat, BitVec.setWidth_eq]
    rw [hrow, if_pos ⟨h1, h2⟩, hofInt]
    rfl
  · rw [hrow, if_neg (by omega)]

/-! ### Map entries -/

theorem withEntry_at {mi : MapId} {j : Nat} (h : s.codec.substate = .mapEntryMnemonic mi j)
    (k : MapId → Nat → Reply Unit) : withEntry s k = k mi j := by
  rw [withEntry, h]

theorem length_commandMap_setMapEntry (mi : MapId) (j : Nat) (e : Byte) (c : Command) :
    (commandMap (setMapEntry mi j e c) mi).length = (commandMap c mi).length := by
  cases mi <;> exact List.length_set

/-- An entry before the last is followed by the next one (R323). -/
theorem entryDone_of_lt {mi : MapId} {j : Nat} (h : j + 1 < (commandMap s.codec.cmd mi).length) (e : Byte) :
    entryDone mi j e s =
      s.withCodec (.mapEntryMnemonic mi (j + 1)) (setMapEntry mi j e s.codec.cmd) (s.ctx.cached e) :=
  if_pos ((length_commandMap_setMapEntry mi j e s.codec.cmd).symm ▸ h)

/-- The last entry of a map is followed by the count of the distance map, or by the commit (R323, R324). -/
theorem entryDone_of_le {mi : MapId} {j : Nat} (h : (commandMap s.codec.cmd mi).length ≤ j + 1) (e : Byte) :
    entryDone mi j e s =
      if mi = .literal then
        s.withCodec (.mapCount .distance .small) (setMapEntry mi j e s.codec.cmd) (s.ctx.cached e)
      else
        s.withCodec .fullyDecoded (setMapEntry mi j e s.codec.cmd)
          ((s.ctx.cached e).committed (setMapEntry mi j e s.codec.cmd)) := by
  rw [← setCtx_setCmd_goto (Context.cached e), ← setCtx_setCmd_commit (Context.cached e)]
  exact if_neg (Nat.not_lt.mpr ((length_commandMap_setMapEntry mi j e s.codec.cmd).symm ▸ h))

theorem read_writeList_zero {m : Memory Byte} (h : Memory.wf 0 m = true) (bs : List Byte) (a : Nat) :
    Memory.read 0 (Memory.writeList 0 m 0 bs) a = (bs[a]?).getD (Memory.read 0 m a) := by
  rw [Memory.read_writeList h, if_pos (Nat.zero_le a), Nat.sub_zero]

/-- Settles O42: `entryDone` in its three cases, with the commit read byte by byte. -/
theorem mapEntryRows : Obligations.MapEntryRows := by
  intro s mi j h hsub
  have row (v : Nibble) : exec (decodeNibble .cmapEntry v) s = (rowBody .cmapEntry v s).rowOutcome :=
    exec_decodeNibble h v
  have hexplicit : exec .cmapExplicit s = (cmapEscape s).rowOutcome := row 13
  rw [cmapEscape, withEntry_at hsub] at hexplicit
  refine ⟨hexplicit, row 14, row 15, fun m hm => ?_⟩
  intro e ctx cmd
  have hdone : exec (decodeNibble .cmapEntry m) s = .next (entryDone mi j e s) := by
    rw [row, rowBody, dif_pos (by omega), cmapRecent, withEntry_at hsub]
    rfl
  have hcmd : cmd = setMapEntry mi j e s.codec.cmd := by cases mi <;> rfl
  rw [hdone, hcmd]
  refine ⟨fun hmore => congrArg _ (entryDone_of_lt hmore e), fun hlast hmi => ?_, fun hlast hmi hmem => ?_⟩
  · rw [entryDone_of_le hlast, if_pos hmi]
    rfl
  · obtain ⟨-, -, -, -, hlit, hdist⟩ := s.memoriesCanonical_iff.mp hmem
    refine ⟨_, _, ?_, read_writeList_zero hlit _, read_writeList_zero hdist _⟩
    rw [entryDone_of_le hlast, if_neg (by rw [hmi]; decide)]
    rfl

/-! ### Single fields -/

/-- Settles O43, by the range of the nibble in each table. -/
theorem singleFieldRows : Obligations.SingleFieldRows := by
  refine fun s v => ⟨fun h => ?highEntropy, fun h => ?predMode, fun h => ?speed⟩
  all_goals rw [exec_decodeNibble h, rowBody]
  case highEntropy =>
    by_cases h0 : v = 0
    · subst h0; rfl
    · by_cases h1 : v = 1
      · subst h1; rfl
      · rw [if_neg h0, if_neg h1, if_pos (by bv_omega)]; rfl
  case predMode =>
    by_cases hv : 3 < v.toNat
    · rw [if_neg (by omega), if_pos hv]; rfl
    · rw [if_pos (by omega), if_neg hv]; rfl
  case speed =>
    by_cases hv : 7 < v.toNat
    · rw [if_neg (by omega), if_pos hv]; rfl
    · rw [if_pos (by omega), if_neg hv, speedField]
      split <;> rfl

end

end Sys2Proof.Machine

namespace Sys2Proof

open Sys2Proof.Machine

/-- Settles O38, row by row (in this namespace, because `Machine.smallRows` is the table). -/
theorem smallRows : Obligations.SmallRows := by
  intro s u h hsub
  have row (v : Nibble) : exec (decodeNibble .small v) s = (rowBody .small v s).rowOutcome := exec_decodeNibble h v
  have next (v : Nibble) (stage : IntStage) (hv : rowBody .small v = smallGoto stage) :
      exec (decodeNibble .small v) s = .next (s.withCodec (u.at stage) s.codec.cmd s.ctx) := by
    rw [row, hv, smallGoto, withUser_at hsub]
    rfl
  have hrepeat : exec .smallRepeat s = (smallEscape s).rowOutcome := row 12
  rw [smallEscape, withUser_at hsub] at hrepeat
  refine ⟨fun p hp => ?value, next 10 .first rfl, next 11 .greater rfl, next 13 .mantissaHeader rfl,
    fun hu => ?copy, fun hu => ?reserved, row 14, row 15⟩
  case value =>
    have ⟨hrow, hval, hle⟩ :
        p.1 = decodeNibble .small (BitVec.ofNat 4 p.2) ∧ (BitVec.ofNat 4 p.2).toNat = p.2 ∧ p.2 ≤ 9 := by
      revert p
      decide
    rw [hrow, exec_small_value h hsub (by omega), hval]
  case copy =>
    rw [hrepeat, if_pos hu]
    rfl
  case reserved =>
    rw [hrepeat, if_neg hu]
    rfl

end Sys2Proof
end

section
/-! SUPPORT. Requests: what a step runs, what a reserved code answers (R90, R92), and the result every operation latches
(R91). -/

namespace Sys2Proof.Machine

/-! ### Steps -/

theorem step_of_decodes {s : State} {bytes : List Byte} {rest : List (List Byte)} {i : Instr}
    (hreq : s.port.requests = bytes :: rest) (hi : decodeRequest bytes = .ok i) : step s = exec i (s.dequeue rest) := by
  simp only [step, hreq, hi]

theorem step_of_refused {s : State} {bytes : List Byte} {rest : List (List Byte)} {e : DecodeError}
    (hreq : s.port.requests = bytes :: rest) (he : decodeRequest bytes = .error e) :
    step s = refuseRequest e bytes (s.dequeue rest) := by
  simp only [step, hreq, he]

/-- Settles O1: the two cases of `step` that perform no refused request. -/
theorem stepRunsDecodedRequest : Obligations.StepRunsDecodedRequest :=
  fun s => ⟨fun hnone => by simp only [step, hnone], fun _ _ _ hreq hi => step_of_decodes hreq hi⟩

/-! ### Reserved codes -/

/-- The codes R92 lists are the ones the decoder has no operation for. -/
theorem decodeOperands_reserved {op : Nat} (h : reservedCode op) (bs : List Byte) :
    decodeOperands op bs = .error .reservedOp := by
  unfold reservedCode at h
  unfold decodeOperands
  split
  case h_48 => rfl
  all_goals omega

/-- Settles O2: the decoder refuses the request, and `refuseRequest` only raises. -/
theorem reservedCodeFails : Obligations.ReservedCodeFails := by
  intro s op bs rest hreq hop
  have hstep : step s = runOp .always false (raise .protocolViolation) (s.dequeue rest) :=
    step_of_refused hreq (decodeOperands_reserved hop bs)
  rw [hstep]
  exact ⟨fun hf => runOp_legal hf rfl, fun hf => runOp_failed hf⟩

/-- Settles O4, by running the decoder on the written words. -/
theorem decodesWrittenWords : Obligations.DecodesWrittenWords := by
  unfold Obligations.DecodesWrittenWords
  decide

/-! ### The latched result -/

/-- However an operation ends, it latches the result it answers (R90, R91, R372). -/
theorem Performed.result_eq {W : Part → Bool} {s t : State} (h : Performed W s t) :
    t.ctl.result = t.port.response.result := by
  cases h <;> rfl

/-- Settles O11: every end of an operation but that of `GET_STATUS` latches what it answers. -/
theorem resultIsLatched : Obligations.ResultIsLatched := by
  intro i s t hop h
  refine ⟨fun hi => ?_, fun hi => ?_⟩
  · cases exec_executed h with
    | reset => rfl
    | status _ hstatus => exact absurd hstatus hi
    | configured => rfl
    | operation h => exact h.result_eq
    | row hrow => rw [hop] at hrow; cases hrow
    | rowRaised _ hrow => rfl
  · subst hi
    cases h
    rfl

end Sys2Proof.Machine
end

section
/-! SUPPORT. The byte queues: the ring under reads and writes, the counts of both queues, and what comes out of each
(R121 to R126). -/

namespace Sys2Proof.Machine

/-! ### Runs of a memory -/

section
variable {α : Type} {d : α}

theorem Memory.readList_eq_map (m : Memory α) (a n : Nat) :
    Memory.readList d m a n = (List.range n).map fun k => Memory.read d m (a + k) := by
  induction n generalizing a with
  | zero => rfl
  | succ n ih => simp [Memory.readList, ih, List.range_succ_eq_map, Nat.add_comm, Nat.add_left_comm]

theorem Memory.readList_add (m : Memory α) (a n p : Nat) :
    Memory.readList d m a (n + p) = Memory.readList d m a n ++ Memory.readList d m (a + n) p := by
  simp [Memory.readList_eq_map, List.range_add, Nat.add_assoc]

variable [DecidableEq α] {m : Memory α}

theorem Memory.read_writeList_of_outside (h : Memory.wf d m = true) {a b : Nat} {vs : List α}
    (hb : b < a ∨ a + vs.length ≤ b) : Memory.read d (Memory.writeList d m a vs) b = Memory.read d m b := by
  rw [Memory.read_writeList h]
  split
  · rw [List.getElem?_eq_none (by omega), Option.getD_none]
  · rfl

theorem Memory.readList_writeList (h : Memory.wf d m = true) (a : Nat) (vs : List α) :
    Memory.readList d (Memory.writeList d m a vs) a vs.length = vs := by
  induction vs generalizing m a with
  | nil => rfl
  | cons v vs ih =>
    have hm := Memory.wf_write a v h
    have hhead := Memory.read_writeList_of_outside hm (vs := vs) (.inl (Nat.lt_add_one a))
    rw [Memory.read_write h, if_pos rfl] at hhead
    exact congrArg₂ List.cons hhead (ih hm (a + 1))

end

/-! ### Runs of the ring -/

theorem ringRead_eq_map (m : Memory Byte) (i n : Nat) :
    ringRead m i n = (List.range n).map fun k => Memory.read 0 m ((i + k) % 65537) := by
  induction n generalizing i with
  | zero => rfl
  | succ n ih => simp [ringRead, ih, List.range_succ_eq_map, Nat.add_comm, Nat.add_left_comm]

theorem getElem?_ringRead (m : Memory Byte) (i n k : Nat) (hk : k < n) :
    (ringRead m i n)[k]? = some (Memory.read 0 m ((i + k) % 65537)) := by
  simp [ringRead_eq_map, hk]

theorem ringRead_add (m : Memory Byte) (i n p : Nat) : ringRead m i (n + p) = ringRead m i n ++ ringRead m (i + n) p := by
  simp [ringRead_eq_map, List.range_add, Nat.add_assoc]

/-- The start of a ring read counts modulo the size of the ring. -/
theorem ringRead_congr_mod {i j : Nat} (h : i % 65537 = j % 65537) (m : Memory Byte) (n : Nat) :
    ringRead m i n = ringRead m j n := by
  have hslot (k : Nat) : (i + k) % 65537 = (j + k) % 65537 := Nat.ModEq.add_right k h
  simp only [ringRead_eq_map, hslot]

variable {m : Memory Byte}

theorem read_ringWrite_of_outside (h : Memory.wf 0 m = true) {a i : Nat} {bs : List Byte}
    (ha : ∀ k < bs.length, a ≠ (i + k) % 65537) :
    Memory.read 0 (ringWrite m i bs) a = Memory.read 0 m a := by
  induction bs generalizing m i with
  | nil => rfl
  | cons b bs ih =>
    have htail : ∀ k < bs.length, a ≠ (i + 1 + k) % 65537 := fun k hk => by
      rw [Nat.add_assoc, Nat.add_comm 1]
      exact ha (k + 1) (Nat.succ_lt_succ hk)
    have hhead : a ≠ i % 65537 := ha 0 (Nat.succ_pos _)
    rw [ringWrite, ih (Memory.wf_write _ b h) htail, Memory.read_write h, if_neg hhead]

/-- A block no longer than the ring does not overwrite itself. -/
theorem ringRead_ringWrite (h : Memory.wf 0 m = true) (i : Nat) {bs : List Byte} (hlen : bs.length ≤ 65537) :
    ringRead (ringWrite m i bs) i bs.length = bs := by
  induction bs generalizing m i with
  | nil => rfl
  | cons b bs ih =>
    rw [List.length_cons] at hlen
    have hm := Memory.wf_write (i % 65537) b h
    have hhead := read_ringWrite_of_outside hm (a := i % 65537) (i := i + 1) (bs := bs) fun k hk => by omega
    rw [Memory.read_write h, if_pos rfl] at hhead
    exact congrArg₂ List.cons hhead (ih hm (i + 1) (by omega))

/-! ### Counts -/

theorem Queues.push_inWr (qs : Queues) (src : List Byte) :
    (qs.push .input src).inWr.toNat = (qs.inWr.toNat + qs.pushCount .input src) % 65537 := by
  simp only [Queues.push, BitVec.toNat_ofNat, Config.inSlots]
  omega

section
variable {qs : Queues} (h : qs.inRange)
include h

theorem Queues.popAvail_input_eq_emod :
    (qs.popAvail .input : Int) = ((qs.inWr.toNat : Int) - qs.inRd.toNat) % 65537 := by
  obtain ⟨hrd, hwr, -⟩ := h
  simp only [Queues.popAvail, Config.inSlots]
  omega

/-- What can be popped and what can be pushed make up the capacity (R121, R122). -/
theorem Queues.popAvail_add_pushAvail (q : Queue) : qs.popAvail q + qs.pushAvail q = 65536 := by
  obtain ⟨hrd, hwr, hlo⟩ := h
  cases q
  · simp only [Queues.popAvail, Queues.pushAvail, Config.inSlots]
    omega
  · exact Nat.sub_add_cancel hlo

theorem Queues.popCount_capacity (q : Queue) : qs.popCount q 65536 = qs.popAvail q := by
  have := Queues.popAvail_add_pushAvail h q
  exact Nat.min_eq_right (by omega)

theorem Queues.pushCount_le_capacity (q : Queue) (src : List Byte) : qs.pushCount q src ≤ 65536 := by
  have := Queues.popAvail_add_pushAvail h q
  unfold Queues.pushCount
  omega

theorem Queues.push_outLo (src : List Byte) :
    (qs.push .output src).outLo.toNat = qs.outLo.toNat - qs.pushCount .output src := by
  obtain ⟨-, -, hlo⟩ := h
  simp only [Queues.push, BitVec.toNat_ofNat]
  omega

theorem Queues.popAvail_push (q : Queue) (src : List Byte) :
    (qs.push q src).popAvail q = qs.popAvail q + qs.pushCount q src := by
  have hsum := Queues.popAvail_add_pushAvail h q
  have hn : qs.pushCount q src ≤ qs.pushAvail q := Nat.min_le_right _ _
  have hwr' := qs.push_inWr src
  have hlo' := Queues.push_outLo h src
  obtain ⟨hrd, hwr, hlo⟩ := h
  cases q
  · have hrd' : (qs.push .input src).inRd = qs.inRd := rfl
    simp only [Queues.popAvail, hwr', hrd', Config.inSlots] at hsum ⊢
    omega
  · simp only [Queues.popAvail, Queues.pushAvail, hlo', Config.outSize] at hsum hn ⊢
    omega

end

theorem Queues.length_take_pushCount (qs : Queues) (q : Queue) (src : List Byte) :
    (src.take (qs.pushCount q src)).length = qs.pushCount q src :=
  List.length_take_of_le (Nat.min_le_left _ _)

/-! ### What a pushed block reads as -/

section
variable {qs : Queues} (src : List Byte)

/-- The ring after a push, from the slot pushed to on, holds the bytes taken (R124). -/
theorem Queues.ringRead_push (h : qs.inRange) (hm : Memory.wf 0 qs.inMem = true) :
    ringRead (qs.push .input src).inMem qs.inWr.toNat (qs.pushCount .input src) =
      src.take (qs.pushCount .input src) := by
  have hlen := qs.length_take_pushCount .input src
  have hcap := Queues.pushCount_le_capacity h .input src
  have hread := ringRead_ringWrite hm qs.inWr.toNat (bs := src.take (qs.pushCount .input src)) (by omega)
  rwa [hlen] at hread

theorem Queues.read_push_input_of_outside (hm : Memory.wf 0 qs.inMem = true) {a : Nat}
    (ha : ∀ k < qs.pushCount .input src, a ≠ (qs.inWr.toNat + k) % 65537) :
    Memory.read 0 (qs.push .input src).inMem a = Memory.read 0 qs.inMem a :=
  read_ringWrite_of_outside hm fun k hk => ha k (qs.length_take_pushCount .input src ▸ hk)

/-- The stack after a push, from its new low-water mark on, holds the bytes taken (R124). -/
theorem Queues.readList_push (hm : Memory.wf 0 qs.outMem = true) :
    Memory.readList 0 (qs.push .output src).outMem (qs.outLo.toNat - qs.pushCount .output src)
      (qs.pushCount .output src) = src.take (qs.pushCount .output src) := by
  have hread := Memory.readList_writeList hm (qs.outLo.toNat - qs.pushCount .output src)
    (src.take (qs.pushCount .output src))
  rwa [qs.length_take_pushCount] at hread

theorem Queues.read_push_output_of_outside (hm : Memory.wf 0 qs.outMem = true) {a : Nat}
    (ha : ∀ k < qs.pushCount .output src, a ≠ qs.outLo.toNat - qs.pushCount .output src + k) :
    Memory.read 0 (qs.push .output src).outMem a = Memory.read 0 qs.outMem a := by
  have hlen := qs.length_take_pushCount .output src
  have hn : qs.pushCount .output src ≤ qs.outLo.toNat := Nat.min_le_right _ _
  refine Memory.read_writeList_of_outside hm ?_
  by_contra hinside
  exact ha (a - (qs.outLo.toNat - qs.pushCount .output src)) (by omega) (by omega)

/-- The bytes taken stand at the slots the rule names (R124). -/
theorem Queues.getElem?_push_input (h : qs.inRange) (hm : Memory.wf 0 qs.inMem = true) {k : Nat}
    (hk : k < qs.pushCount .input src) :
    src[k]? = some (Memory.read 0 (qs.push .input src).inMem ((qs.inWr.toNat + k) % 65537)) := by
  rw [← getElem?_ringRead _ _ _ k hk, Queues.ringRead_push src h hm, List.getElem?_take_of_lt hk]

theorem Queues.getElem?_push_output (hm : Memory.wf 0 qs.outMem = true) {k : Nat}
    (hk : k < qs.pushCount .output src) :
    src[k]? =
      some (Memory.read 0 (qs.push .output src).outMem (qs.outLo.toNat - qs.pushCount .output src + k)) := by
  rw [← Memory.getElem?_readList _ _ _ k hk, Queues.readList_push src hm, List.getElem?_take_of_lt hk]

/-- In the ring the bytes taken follow those that were there, and leave them as they were (R126). -/
theorem Queues.ringRead_push_all (h : qs.inRange) (hm : Memory.wf 0 qs.inMem = true) :
    ringRead (qs.push .input src).inMem qs.inRd.toNat (qs.popAvail .input + qs.pushCount .input src) =
      ringRead qs.inMem qs.inRd.toNat (qs.popAvail .input) ++ src.take (qs.pushCount .input src) := by
  have hpop := Queues.popAvail_input_eq_emod h
  have hsum := Queues.popAvail_add_pushAvail h .input
  have hn : qs.pushCount .input src ≤ qs.pushAvail .input := Nat.min_le_right _ _
  have hend : (qs.inRd.toNat + qs.popAvail .input) % 65537 = qs.inWr.toNat % 65537 := by omega
  have hold : ringRead (qs.push .input src).inMem qs.inRd.toNat (qs.popAvail .input) =
      ringRead qs.inMem qs.inRd.toNat (qs.popAvail .input) := by
    simp only [ringRead_eq_map]
    refine List.map_congr_left fun k hk => Queues.read_push_input_of_outside src hm fun j hj => ?_
    have hkp : k < qs.popAvail .input := List.mem_range.mp hk
    omega
  rw [ringRead_add, hold, ringRead_congr_mod hend, Queues.ringRead_push src h hm]

/-- In the stack the bytes taken precede those that were there, and leave them as they were (R126). -/
theorem Queues.readList_push_all (h : qs.inRange) (hm : Memory.wf 0 qs.outMem = true) :
    Memory.readList 0 (qs.push .output src).outMem (qs.push .output src).outLo.toNat
        (qs.popAvail .output + qs.pushCount .output src) =
      src.take (qs.pushCount .output src) ++ Memory.readList 0 qs.outMem qs.outLo.toNat (qs.popAvail .output) := by
  have hn : qs.pushCount .output src ≤ qs.outLo.toNat := Nat.min_le_right _ _
  have hold : Memory.readList 0 (qs.push .output src).outMem qs.outLo.toNat (qs.popAvail .output) =
      Memory.readList 0 qs.outMem qs.outLo.toNat (qs.popAvail .output) := by
    simp only [Memory.readList_eq_map]
    exact List.map_congr_left fun k _ => Queues.read_push_output_of_outside src hm fun j hj => by omega
  rw [Queues.push_outLo h, Nat.add_comm, Memory.readList_add, Nat.sub_add_cancel hn, Queues.readList_push src hm, hold]

end

/-! ### The four operations -/

section
variable {s : State} (h : s.ctl.failed = false)
include h

theorem exec_bqNumPopAvail (q : Queue) :
    exec (.bqNumPopAvail q) s = .next (s.answer .success (.avail (BitVec.ofNat 32 (s.queues.popAvail q)))) :=
  show execBqNumPopAvail q s = _ from runOp_legal h rfl

theorem exec_bqNumPushAvail (q : Queue) :
    exec (.bqNumPushAvail q) s = .next (s.answer .success (.avail (BitVec.ofNat 32 (s.queues.pushAvail q)))) :=
  show execBqNumPushAvail q s = _ from runOp_legal h rfl

theorem exec_bqPopData (q : Queue) (len : BitVec 32) :
    exec (.bqPopData q len) s =
      .next ((s.pop q len.toNat).answer .success
        (.popped (BitVec.ofNat 32 (s.queues.popCount q len.toNat)) (s.queues.popBytes q len.toNat))) :=
  show execBqPopData q len s = _ from runOp_legal h rfl

theorem exec_bqPushData (q : Queue) (src : List Byte) :
    exec (.bqPushData q src) s =
      .next ((s.push q src).answer .success (.count (BitVec.ofNat 32 (s.queues.pushCount q src)))) :=
  show execBqPushData q src s = _ from runOp_legal h rfl

end

/-- Settles O12: every operation reduces to its body, and the reads of a run give the bytes popped. -/
theorem queueCountsAndPops : Obligations.QueueCountsAndPops := by
  intro s hf hrd hwr hlo
  have hrange : s.queues.inRange := ⟨hrd, hwr, hlo⟩
  refine ⟨s.queues.popAvail .input, s.queues.pushAvail .input, Queues.popAvail_input_eq_emod hrange,
    Queues.popAvail_add_pushAvail hrange .input, exec_bqNumPopAvail hf .input, exec_bqNumPushAvail hf .input,
    exec_bqNumPopAvail hf .output, exec_bqNumPushAvail hf .output, fun len => ?input, fun len => ?output⟩
  case input =>
    exact ⟨_, _, rfl, s.queues.length_popBytes .input len.toNat, getElem?_ringRead _ _ _, exec_bqPopData hf .input len⟩
  case output =>
    exact ⟨_, _, rfl, s.queues.length_popBytes .output len.toNat, Memory.getElem?_readList _ _ _,
      exec_bqPopData hf .output len⟩

/-- Settles O13: the block read back from its slots is what was taken, and every other slot is outside the write. -/
theorem pushDataStores : Obligations.PushDataStores := by
  intro s src hf hcan hrd hwr hlo
  have hrange : s.queues.inRange := ⟨hrd, hwr, hlo⟩
  obtain ⟨⟨hin, hout⟩, -⟩ := s.memoriesCanonical_iff.mp hcan
  refine ⟨?input, ?output⟩
  case input =>
    exact ⟨_, _, rfl, exec_bqPushData hf .input src, rfl, s.queues.push_inWr src,
      fun _ => Queues.getElem?_push_input src hrange hin, fun _ => Queues.read_push_input_of_outside src hin⟩
  case output =>
    exact ⟨_, _, rfl, exec_bqPushData hf .output src, rfl, Queues.push_outLo hrange src,
      fun _ => Queues.getElem?_push_output src hout, fun _ => Queues.read_push_output_of_outside src hout⟩

/-- Settles O14: a push lengthens what can be popped by the bytes taken, which stand after the old ones in the ring and
before them in the stack. -/
theorem queueOrder : Obligations.QueueOrder := by
  intro qs src hin hout hrd hwr hlo
  have hrange : qs.inRange := ⟨hrd, hwr, hlo⟩
  have hall (q : Queue) : (qs.push q src).popCount q 65536 = qs.popAvail q + qs.pushCount q src := by
    rw [Queues.popCount_capacity (Queues.inRange_push q src hrange), Queues.popAvail_push hrange]
  simp only [Queues.popBytes, hall, Queues.popCount_capacity hrange]
  exact ⟨Queues.ringRead_push_all src hrange hin, Queues.readList_push_all src hrange hout⟩

end Sys2Proof.Machine
end

section
/-! SUPPORT. Big-endian numbers (R13): the bytes of a number and the number of its bytes, in `B1MEM` too. -/

namespace Sys2Proof.Machine

/-! ### Bytes of a number -/

theorem getElem?_leBytes {n i : Nat} (hi : i < n) (v : Nat) :
    (leBytes n v)[i]? = some (BitVec.ofNat 8 (v / 2 ^ (8 * i))) := by
  induction n generalizing i v with
  | zero => omega
  | succ n ih =>
    cases i with
    | zero => simp [leBytes]
    | succ i =>
      rw [leBytes, List.getElem?_cons_succ, ih (Nat.lt_of_succ_lt_succ hi), Nat.div_div_eq_div_mul, Nat.mul_succ,
        Nat.pow_add, Nat.mul_comm 256]

@[simp] theorem length_beBytes (n v : Nat) : (beBytes n v).length = n := by simp [beBytes]

theorem getElem?_beBytes {n i : Nat} (hi : i < n) (v : Nat) :
    (beBytes n v)[i]? = some (BitVec.ofNat 8 (v / 2 ^ (8 * (n - 1 - i)))) := by
  rw [beBytes, List.getElem?_reverse (by simpa using hi), length_leBytes, getElem?_leBytes (by omega)]

theorem fromBE_beBytes (n v : Nat) : fromBE (beBytes n v) = v % 256 ^ n := by
  rw [fromBE, beBytes, List.reverse_reverse, fromLE_leBytes]

/-! ### The number of given bytes -/

theorem fromLE_lt (bs : List Byte) : fromLE bs < 256 ^ bs.length := by
  induction bs with
  | nil => exact Nat.one_pos
  | cons b bs ih =>
    have hb : b.toNat < 256 := b.isLt
    rw [fromLE, List.length_cons, Nat.pow_succ]
    omega

theorem fromBE_lt (bs : List Byte) : fromBE bs < 256 ^ bs.length := by
  simpa [fromBE] using fromLE_lt bs.reverse

theorem leBytes_fromLE (bs : List Byte) : leBytes bs.length (fromLE bs) = bs := by
  induction bs with
  | nil => rfl
  | cons b bs ih =>
    have hb : b.toNat < 256 := b.isLt
    have hrest : (b.toNat + 256 * fromLE bs) / 256 = fromLE bs := by omega
    have hlow : BitVec.ofNat 8 (b.toNat + 256 * fromLE bs) = b := by
      apply BitVec.eq_of_toNat_eq
      simp only [BitVec.toNat_ofNat]
      omega
    rw [List.length_cons, fromLE, leBytes, hrest, hlow, ih]

theorem beBytes_fromBE (bs : List Byte) : beBytes bs.length (fromBE bs) = bs := by
  have h := congrArg List.reverse (leBytes_fromLE bs.reverse)
  rwa [List.length_reverse, List.reverse_reverse] at h

/-- Only the part of a number below `256 ^ n` is in its `n` bytes. -/
theorem beBytes_emod (n v : Nat) : beBytes n (v % 256 ^ n) = beBytes n v := by
  have h := beBytes_fromBE (beBytes n v)
  rwa [length_beBytes, fromBE_beBytes] at h

/-- `n` bytes are those of every number that agrees with theirs below `256 ^ n`. -/
theorem eq_beBytes {bs : List Byte} {n v : Nat} (hlen : bs.length = n) (h : v % 256 ^ n = fromBE bs) :
    bs = beBytes n v := by
  rw [← beBytes_emod, h, ← hlen, beBytes_fromBE]

/-! ### Numbers in a memory -/

theorem Memory.read_of_readList_eq_beBytes {m : Memory Byte} {a n v i : Nat}
    (h : Memory.readList 0 m a n = beBytes n v) (hi : i < n) :
    Memory.read 0 m (a + i) = BitVec.ofNat 8 (v / 2 ^ (8 * (n - 1 - i))) := by
  have hread := Memory.getElem?_readList (d := 0) m a n i hi
  rw [h, getElem?_beBytes hi] at hread
  exact (Option.some.inj hread).symm

theorem Memory.readList_write_beBytes {m : Memory Byte} (h : Memory.wf 0 m = true) (a n v : Nat) :
    Memory.readList 0 (Memory.writeList 0 m a (beBytes n v)) a n = beBytes n v := by
  simpa using Memory.readList_writeList h a (beBytes n v)

theorem fromBE_readList_lt (m : Memory Byte) (a n : Nat) : fromBE (Memory.readList 0 m a n) < 256 ^ n := by
  simpa using fromBE_lt (Memory.readList 0 m a n)

end Sys2Proof.Machine
end

section
/-! SUPPORT. The binary coder (R140 to R148): what each of its operations runs, the cases of its steps, and that a
decoding step undoes an encoding step (R150). -/

namespace Sys2Proof.Machine

/-! ### The operations -/

section
variable {s : State} (h : s.ctl.failed = false)
include h

theorem exec_bEncodeInit :
    exec .bEncodeInit s = .next (({ s.lock with ans1 := s.ans1.encodeInit } : State).answer .success .nothing) :=
  show execBEncodeInit s = _ from runOp_legal h rfl

theorem exec_bEncode (bit : Bool) (p : Byte) :
    exec (.bEncode bit p) s = ((ansEncode bit p s.lock).map fun _ => Returns.nothing).outcome :=
  show execBEncode bit p s = _ from runOp_legal h rfl

theorem exec_bEncodeFlush : exec .bEncodeFlush s = ((ansFlush s.lock).map fun _ => Returns.nothing).outcome :=
  show execBEncodeFlush s = _ from runOp_legal h rfl

theorem exec_bDecodeInit :
    exec .bDecodeInit s = .next (({ s.lock with ans1 := s.ans1.decodeInit } : State).answer .success .nothing) :=
  show execBDecodeInit s = _ from runOp_legal h rfl

theorem exec_bDecode_zero : exec (.bDecode 0) s = .next (s.lock.failEntry .protocolViolation) :=
  show execBDecode 0 s = _ from runOp_legal h rfl

theorem exec_bDecode {p : Byte} (hp : p ≠ 0) :
    exec (.bDecode p) s = .next (s.lock.answer .success
      (.x1Bit (BitVec.ofNat 64 (ansX1 p s.ans1.r.toNat)) (ansBit p s.ans1.r.toNat))) := by
  show execBDecode p s = _
  rw [execBDecode, runOp_legal h rfl, if_neg hp]
  rfl

theorem exec_bDecodeWillAdvance (x1 : BitVec 64) :
    exec (.bDecodeWillAdvance x1) s = .next (s.lock.answer .success (.adv (decide (x1.toNat < 2147483648)))) :=
  show execBDecodeWillAdvance x1 s = _ from runOp_legal h rfl

theorem exec_bDecodeAdvance (x1 : BitVec 64) :
    exec (.bDecodeAdvance x1) s = ((ansAdvance 65536 x1.toNat s.lock).map fun _ => Returns.nothing).outcome :=
  show execBDecodeAdvance x1 s = _ from runOp_legal h rfl

theorem exec_b1memRead (addr : BitVec 16) :
    exec (.b1memRead addr) s = .next (s.lock.answer .success (.byte (Memory.read 0 s.ans1.mem addr.toNat))) :=
  show execB1memRead addr s = _ from runOp_legal h rfl

theorem exec_b1memWrite (addr : BitVec 16) (byte : Byte) :
    exec (.b1memWrite addr byte) s =
      .next (({ s.lock with ans1 := { s.ans1 with mem := Memory.write 0 s.ans1.mem addr.toNat byte } } : State).answer
        .success .nothing) :=
  show execB1memWrite addr byte s = _ from runOp_legal h rfl

end

/-! ### Writing below the cursor -/

/-- Where there is room the bytes go just below the cursor, which moves down by their number. -/
theorem Ans1.emit_eq {bs : List Byte} {a : Ans1} (h : bs.length ≤ a.cursor.toNat) :
    a.emit bs = { a with
      cursor := a.cursor - BitVec.ofNat 32 bs.length
      mem := Memory.writeList 0 a.mem (a.cursor.toNat - bs.length) bs } := by
  have hcursor : BitVec.ofNat 32 (a.cursor.toNat - bs.length) = a.cursor - BitVec.ofNat 32 bs.length := by
    have := a.cursor.isLt
    apply BitVec.eq_of_toNat_eq
    simp only [BitVec.toNat_ofNat, BitVec.toNat_sub]
    omega
  rw [Ans1.emit, hcursor]

/-! ### Encoding steps -/

section
variable {s : State} {bit : Bool} {p : Byte}

theorem ansEncode_zero : ansEncode bit 0 s = raise .protocolViolation s := if_pos rfl

/-- Below `x_max` no word is written (R141). -/
theorem ansEncode_below (hp : p ≠ 0) (hx : s.ans1.r.toNat < ansXMax bit p) :
    ansEncode bit p s =
      .ok () { s with ans1 := { s.ans1 with r := BitVec.ofNat 64 (ansUpdate bit p s.ans1.r.toNat) } } := by
  rw [ansEncode, if_neg hp, if_neg (Nat.not_le.mpr hx)]

theorem ansEncode_noRoom (hp : p ≠ 0) (hx : ansXMax bit p ≤ s.ans1.r.toNat) (hc : s.ans1.cursor.toNat < 4) :
    ansEncode bit p s = raise .protocolViolation s := by
  rw [ansEncode, if_neg hp, if_pos hx, if_pos hc]

/-- From `x_max` on the low word of `r` is written, high byte first (R141). -/
theorem ansEncode_emits (hp : p ≠ 0) (hx : ansXMax bit p ≤ s.ans1.r.toNat) (hc : 4 ≤ s.ans1.cursor.toNat) :
    ansEncode bit p s = .ok () { s with ans1 := { s.ans1 with
      r := BitVec.ofNat 64 (ansUpdate bit p (s.ans1.r.toNat / 2 ^ 32))
      cursor := s.ans1.cursor - 4
      mem := Memory.writeList 0 s.ans1.mem (s.ans1.cursor.toNat - 4) (beBytes 4 s.ans1.r.toNat) } } := by
  have hlow : beBytes 4 (s.ans1.r.toNat % 2 ^ 32) = beBytes 4 s.ans1.r.toNat := beBytes_emod 4 _
  have hroom : (beBytes 4 s.ans1.r.toNat).length ≤ s.ans1.cursor.toNat := by rwa [length_beBytes]
  rw [ansEncode, if_neg hp, if_pos hx, if_neg (Nat.not_lt.mpr hc), hlow, Ans1.emit_eq hroom, length_beBytes]
  rfl

theorem ansFlush_noRoom (hc : s.ans1.cursor.toNat < 8) : ansFlush s = raise .protocolViolation s := if_pos hc

/-- A flush writes the whole of `r` (R143). -/
theorem ansFlush_emits (hc : 8 ≤ s.ans1.cursor.toNat) :
    ansFlush s = .ok () { s with ans1 := { s.ans1 with
      cursor := s.ans1.cursor - 8
      mem := Memory.writeList 0 s.ans1.mem (s.ans1.cursor.toNat - 8) (beBytes 8 s.ans1.r.toNat) } } := by
  have hroom : (beBytes 8 s.ans1.r.toNat).length ≤ s.ans1.cursor.toNat := by rwa [length_beBytes]
  rw [ansFlush, if_neg (Nat.not_lt.mpr hc), Ans1.emit_eq hroom, length_beBytes]
  rfl

end

/-- What `n` bytes written at `a` leave: the bytes of the number there, and everything outside as it was. -/
theorem Memory.read_write_beBytes {m : Memory Byte} (h : Memory.wf 0 m = true) {a n b : Nat} (hab : a + n = b)
    (v : Nat) :
    (∀ i < n, Memory.read 0 (Memory.writeList 0 m a (beBytes n v)) (a + i) =
      BitVec.ofNat 8 (v / 2 ^ (8 * (n - 1 - i)))) ∧
    ∀ x, x < a ∨ b ≤ x → Memory.read 0 (Memory.writeList 0 m a (beBytes n v)) x = Memory.read 0 m x :=
  ⟨fun _ => Memory.read_of_readList_eq_beBytes (Memory.readList_write_beBytes h a n v),
    fun _ hx => Memory.read_writeList_of_outside h (by rwa [length_beBytes, hab])⟩

/-- Settles O15, by the cases of the encoding step. -/
theorem bitEncodeResult : Obligations.BitEncodeResult := by
  intro s bit p hf hcan
  obtain ⟨-, ⟨-, hmem⟩, -⟩ := s.memoriesCanonical_iff.mp hcan
  refine ⟨?zero, ?below, ?noRoom, ?emits⟩
  case zero =>
    rintro rfl
    rw [exec_bEncode hf, ansEncode_zero]
    rfl
  case below =>
    intro hp hx
    rw [exec_bEncode hf, ansEncode_below (s := s.lock) hp hx]
    rfl
  case noRoom =>
    intro hp hx hc
    rw [exec_bEncode hf, ansEncode_noRoom (s := s.lock) hp hx hc]
    rfl
  case emits =>
    intro hp hx hc
    refine ⟨_, ?_, Memory.read_write_beBytes hmem (Nat.sub_add_cancel hc) s.ans1.r.toNat⟩
    rw [exec_bEncode hf, ansEncode_emits (s := s.lock) hp hx hc]
    rfl

/-! ### Decoding steps -/

/-- `B_DECODE_INIT` reads the number whose bytes stand at the start of `B1MEM` (R147). -/
theorem Ans1.decodeInit_r_bytes (a : Ans1) {i : Nat} (hi : i < 8) :
    BitVec.ofNat 8 (a.decodeInit.r.toNat / 2 ^ (8 * (7 - i))) = Memory.read 0 a.mem i := by
  have hr : a.decodeInit.r.toNat % 256 ^ 8 = fromBE (Memory.readList 0 a.mem 0 8) := by
    have hlt := fromBE_readList_lt a.mem 0 8
    simp only [Ans1.decodeInit, BitVec.toNat_ofNat]
    omega
  have hread := Memory.read_of_readList_eq_beBytes (eq_beBytes (Memory.length_readList _ _ _) hr) hi
  rw [Nat.zero_add] at hread
  exact hread.symm

/-- Settles O16, by the rules of the five operations. -/
theorem rawCoderAndMemory : Obligations.RawCoderAndMemory := by
  intro s hf hcan
  obtain ⟨-, ⟨-, hmem⟩, -⟩ := s.memoriesCanonical_iff.mp hcan
  refine ⟨exec_bEncodeInit hf, ?noRoom, ?flush, ?decodeInit, exec_b1memRead hf, ?write⟩
  case noRoom =>
    intro hc
    rw [exec_bEncodeFlush hf, ansFlush_noRoom (s := s.lock) hc]
    rfl
  case flush =>
    intro hc
    refine ⟨_, ?_, Memory.read_write_beBytes hmem (Nat.sub_add_cancel hc) s.ans1.r.toNat⟩
    rw [exec_bEncodeFlush hf, ansFlush_emits (s := s.lock) hc]
    rfl
  case decodeInit => exact ⟨_, exec_bDecodeInit hf, fun _ => s.ans1.decodeInit_r_bytes⟩
  case write =>
    exact fun addr byte => ⟨_, exec_b1memWrite hf addr byte, fun a => Memory.read_write hmem addr.toNat a byte⟩

section
variable {s : State} {limit x1 : Nat}

/-- At or above `L` no word is taken (R146). -/
theorem ansAdvance_keeps (hx : 2147483648 ≤ x1) :
    ansAdvance limit x1 s = .ok () { s with ans1 := { s.ans1 with r := BitVec.ofNat 64 x1 } } :=
  if_neg (Nat.not_lt.mpr hx)

theorem ansAdvance_beyond (hx : x1 < 2147483648) (hc : limit < s.ans1.cursor.toNat + 4) :
    ansAdvance limit x1 s = raise .malformedChunk s := by
  rw [ansAdvance, if_pos hx, if_pos hc]

/-- Below `L` the word at the cursor is shifted in, high byte first (R146). -/
theorem ansAdvance_shifts (hx : x1 < 2147483648) (hc : s.ans1.cursor.toNat + 4 ≤ limit) :
    ∃ r : BitVec 64, r.toNat / 2 ^ 32 = x1 ∧
      Memory.readList 0 s.ans1.mem s.ans1.cursor.toNat 4 = beBytes 4 r.toNat ∧
      ansAdvance limit x1 s = .ok () { s with ans1 := { s.ans1 with r := r, cursor := s.ans1.cursor + 4 } } := by
  have hword := fromBE_readList_lt s.ans1.mem s.ans1.cursor.toNat 4
  have hcursor : BitVec.ofNat 32 (s.ans1.cursor.toNat + 4) = s.ans1.cursor + 4 := by bv_omega
  generalize hw : fromBE (Memory.readList 0 s.ans1.mem s.ans1.cursor.toNat 4) = word at hword
  have hr : (BitVec.ofNat 64 (x1 * 2 ^ 32 + word)).toNat = x1 * 2 ^ 32 + word := by
    rw [BitVec.toNat_ofNat, Nat.mod_eq_of_lt (by omega)]
  refine ⟨BitVec.ofNat 64 (x1 * 2 ^ 32 + word), ?high, eq_beBytes (Memory.length_readList _ _ _) ?low, ?step⟩
  case high => omega
  case low => omega
  case step => rw [ansAdvance, if_pos hx, if_neg (Nat.not_lt.mpr hc), hw, hcursor]

end

/-- `B_DECODE` does not underflow, and its value fits the register (R144). -/
theorem ansX1_spec (p : Byte) {r : Nat} (hr : r < 2 ^ 64) :
    (BitVec.ofNat 64 (ansX1 p r)).toNat + ansBs (ansBit p r) p = ansLs (ansBit p r) p * (r / 256) + r % 256 := by
  have hbs : ansBs (ansBit p r) p ≤ r % 256 := by
    unfold ansBs
    split
    · exact of_decide_eq_true ‹_›
    · exact Nat.zero_le _
  have hls : ansLs (ansBit p r) p ≤ 256 := by
    have := p.isLt
    unfold ansLs
    split <;> omega
  have hmul : ansLs (ansBit p r) p * (r / 256) ≤ 256 * (r / 256) := Nat.mul_le_mul_right _ hls
  rw [BitVec.toNat_ofNat, ansX1, Nat.mod_eq_of_lt (by omega)]
  omega

/-- Settles O17: the value of `B_DECODE` and the cases of the advance with the limit of the host. -/
theorem bitDecodeResult : Obligations.BitDecodeResult := by
  intro s hf
  refine ⟨exec_bDecode_zero hf, ?decode, fun x1 => ⟨exec_bDecodeWillAdvance hf x1, ?keeps, ?beyond, ?shifts⟩⟩
  case decode =>
    exact fun p hp => ⟨_, _, decide_eq_true_iff, ansX1_spec p s.ans1.r.isLt, exec_bDecode hf hp⟩
  case keeps =>
    intro hx
    rw [exec_bDecodeAdvance hf, ansAdvance_keeps hx, BitVec.ofNat_toNat, BitVec.setWidth_eq]
    rfl
  case beyond =>
    intro hx hc
    rw [exec_bDecodeAdvance hf, ansAdvance_beyond (s := s.lock) hx hc]
    rfl
  case shifts =>
    intro hx hc
    obtain ⟨r, hhigh, hlow, hadv⟩ := ansAdvance_shifts (s := s.lock) hx hc
    refine ⟨r, hhigh, fun i hi => (Memory.read_of_readList_eq_beBytes hlow hi).symm, ?_⟩
    rw [exec_bDecodeAdvance hf, hadv]
    rfl

/-! ### The decoding step undoes the encoding step -/

section
variable {bit : Bool} {p : Byte} (hp : p ≠ 0)
include hp

/-- The interval of a bit is not empty and lies within the 256 values (R140). -/
theorem ansLs_bounds : 0 < ansLs bit p ∧ ansBs bit p + ansLs bit p ≤ 256 := by
  have hpos : p.toNat ≠ 0 := fun h => hp (BitVec.eq_of_toNat_eq h)
  have hlt := p.isLt
  unfold ansLs ansBs
  cases bit <;> simp <;> omega

theorem ansUpdate_div (r : Nat) : ansUpdate bit p r / 256 = r / ansLs bit p := by
  obtain ⟨hpos, hle⟩ := ansLs_bounds (bit := bit) hp
  have := Nat.mod_lt r hpos
  unfold ansUpdate
  omega

theorem ansUpdate_mod (r : Nat) : ansUpdate bit p r % 256 = ansBs bit p + r % ansLs bit p := by
  obtain ⟨hpos, hle⟩ := ansLs_bounds (bit := bit) hp
  have := Nat.mod_lt r hpos
  unfold ansUpdate
  omega

theorem ansBit_ansUpdate (r : Nat) : ansBit p (ansUpdate bit p r) = bit := by
  have hlt := Nat.mod_lt r (ansLs_bounds (bit := bit) hp).1
  rw [ansBit, ansUpdate_mod hp]
  cases bit
  · exact decide_eq_false (by simpa [ansBs, ansLs] using hlt)
  · exact decide_eq_true (by simp [ansBs])

theorem ansX1_ansUpdate (r : Nat) : ansX1 p (ansUpdate bit p r) = r := by
  have hdiv := Nat.div_add_mod r (ansLs bit p)
  rw [ansX1, ansBit_ansUpdate hp, ansUpdate_div hp, ansUpdate_mod hp]
  omega

/-- Below a multiple of the interval's width the update stays below the same multiple of 256. -/
theorem ansUpdate_lt {r k : Nat} (h : r < k * ansLs bit p) : ansUpdate bit p r < k * 256 := by
  have hdiv : r / ansLs bit p < k := (Nat.div_lt_iff_lt_mul (ansLs_bounds hp).1).mpr h
  have := ansUpdate_div hp r (bit := bit)
  omega

theorem le_ansUpdate {r k : Nat} (h : k * ansLs bit p ≤ r) : k * 256 ≤ ansUpdate bit p r := by
  have hdiv : k ≤ r / ansLs bit p := (Nat.le_div_iff_mul_le (ansLs_bounds hp).1).mpr h
  have := ansUpdate_div hp r (bit := bit)
  omega

/-- The update does not go down. -/
theorem self_le_ansUpdate (r : Nat) : r ≤ ansUpdate bit p r := by
  have hls : ansLs bit p ≤ 256 := by have := (ansLs_bounds (bit := bit) hp).2; omega
  have hdiv := Nat.div_add_mod r (ansLs bit p)
  have hmul := Nat.mul_le_mul_right (r / ansLs bit p) hls
  unfold ansUpdate
  omega

end

/-- What is left of `r` once the word is out, where one goes out (R141). -/
def ansKept (bit : Bool) (p : Byte) (r : Nat) : Nat := if ansXMax bit p ≤ r then r / 2 ^ 32 else r

theorem ansKept_below {bit : Bool} {p : Byte} {r : Nat} (h : r < ansXMax bit p) : ansKept bit p r = r :=
  if_neg (Nat.not_le.mpr h)

theorem ansKept_emits {bit : Bool} {p : Byte} {r : Nat} (h : ansXMax bit p ≤ r) : ansKept bit p r = r / 2 ^ 32 :=
  if_pos h

theorem ansKept_le (bit : Bool) (p : Byte) (r : Nat) : ansKept bit p r ≤ r := by
  unfold ansKept
  split <;> omega

/-- The normalized range of the register (R150). -/
def normalized (r : Nat) : Prop := 2147483648 ≤ r ∧ r < 2 ^ 63

/-- Encoding a bit keeps the register normalized (R150). -/
theorem normalized_step {bit : Bool} {p : Byte} {r : Nat} (hp : p ≠ 0) (h : normalized r) :
    normalized (ansUpdate bit p (ansKept bit p r)) := by
  obtain ⟨hlo, hhi⟩ := h
  obtain ⟨hpos, -⟩ := ansLs_bounds (bit := bit) hp
  rcases Nat.lt_or_ge r (ansXMax bit p) with hx | hx
  · rw [ansKept_below hx]
    exact ⟨hlo.trans (self_le_ansUpdate hp r), ansUpdate_lt hp hx⟩
  · rw [ansKept_emits hx]
    have hx' : 2 ^ 55 * ansLs bit p ≤ r := hx
    have hlow : 2 ^ 23 * ansLs bit p ≤ r / 2 ^ 32 := by omega
    have hhigh : r / 2 ^ 32 < 2 ^ 55 * ansLs bit p := by omega
    exact ⟨le_ansUpdate hp hlow, ansUpdate_lt hp hhigh⟩

/-- The register after a step holds the whole update. -/
theorem toNat_ofNat_step {bit : Bool} {p : Byte} {r : Nat} (hp : p ≠ 0) (h : normalized r) :
    (BitVec.ofNat 64 (ansUpdate bit p (ansKept bit p r))).toNat = ansUpdate bit p (ansKept bit p r) := by
  rw [BitVec.toNat_ofNat, Nat.mod_eq_of_lt ((normalized_step hp h).2.trans (by decide))]

/-- Two registers with the same high part and the same low word are the same. -/
theorem eq_of_word {r r' : BitVec 64} (hhigh : r'.toNat / 2 ^ 32 = r.toNat / 2 ^ 32)
    (hlow : beBytes 4 r'.toNat = beBytes 4 r.toNat) : r' = r := by
  have hword := congrArg fromBE hlow
  rw [fromBE_beBytes, fromBE_beBytes] at hword
  apply BitVec.eq_of_toNat_eq
  omega

/-- After an encoding step, advancing with what the step kept shifts the word written back in, where there is one. -/
theorem ansEncode_ansAdvance {s : State} {bit : Bool} {p : Byte} (hp : p ≠ 0) (hr : normalized s.ans1.r.toNat)
    (hmem : Memory.wf 0 s.ans1.mem = true) (hc : 4 ≤ s.ans1.cursor.toNat) (hcmax : s.ans1.cursor.toNat ≤ 65536) :
    ∃ a, ansEncode bit p s = .ok () { s with ans1 := a } ∧
      a.r.toNat = ansUpdate bit p (ansKept bit p s.ans1.r.toNat) ∧
      ∀ u : State, u.ans1 = a → ∃ b, ansAdvance 65536 (ansKept bit p s.ans1.r.toNat) u = .ok () { u with ans1 := b } ∧
        b.r = s.ans1.r ∧ b.cursor = s.ans1.cursor := by
  have hreg := toNat_ofNat_step (bit := bit) hp hr
  rcases Nat.lt_or_ge s.ans1.r.toNat (ansXMax bit p) with hx | hx
  · rw [ansKept_below hx] at hreg ⊢
    refine ⟨_, ansEncode_below hp hx, hreg, fun u hu => ⟨_, ansAdvance_keeps hr.1, ?_, ?_⟩⟩
    · rw [BitVec.ofNat_toNat, BitVec.setWidth_eq]
    · rw [hu]
  · rw [ansKept_emits hx] at hreg ⊢
    refine ⟨_, ansEncode_emits hp hx hc, hreg, fun u hu => ?_⟩
    have hcursor : u.ans1.cursor.toNat = s.ans1.cursor.toNat - 4 := by rw [hu]; bv_omega
    have hback : u.ans1.cursor + 4 = s.ans1.cursor := by bv_omega
    have hshort : s.ans1.r.toNat / 2 ^ 32 < 2147483648 := by have := hr.2; omega
    obtain ⟨r, hhigh, hlow, hadv⟩ := ansAdvance_shifts (s := u) (limit := 65536) hshort (by omega)
    have hword : beBytes 4 r.toNat = beBytes 4 s.ans1.r.toNat := by
      rw [← hlow, hcursor, hu]
      exact Memory.readList_write_beBytes hmem _ 4 _
    exact ⟨_, hadv, eq_of_word hhigh hword, hback⟩

/-- Settles O18: `ansX1_ansUpdate` takes the register back to what was kept, and the advance shifts the word written
back in. -/
theorem rawBitRoundTrip : Obligations.RawBitRoundTrip := by
  intro s bit p hf hcan hp hlo hhi hc hcmax
  obtain ⟨-, ⟨-, hmem⟩, -⟩ := s.memoriesCanonical_iff.mp hcan
  obtain ⟨a, henc, hr, hadv⟩ := ansEncode_ansAdvance (s := s.lock) (bit := bit) hp ⟨hlo, hhi⟩ hmem hc hcmax
  have hnorm := hr ▸ normalized_step (bit := bit) hp ⟨hlo, hhi⟩
  have hbit : ansBit p a.r.toNat = bit := by rw [hr, ansBit_ansUpdate hp]
  have hx1 : (BitVec.ofNat 64 (ansX1 p a.r.toNat)).toNat = ansKept bit p s.ans1.r.toNat := by
    have hkept := ansKept_le bit p s.ans1.r.toNat
    rw [hr, State.lock_ans1, ansX1_ansUpdate hp, BitVec.toNat_ofNat, Nat.mod_eq_of_lt (by omega)]
  let t : State := ({ s.lock with ans1 := a } : State).answer .success .nothing
  obtain ⟨b, hb, hbr, hbc⟩ := hadv t.lock rfl
  refine ⟨t, BitVec.ofNat 64 (ansX1 p a.r.toNat), ({ t.lock with ans1 := b } : State).answer .success .nothing,
    ?encode, hnorm.1, hnorm.2, ?decode, ?advance, rfl, hbr, hbc⟩
  case encode => rw [exec_bEncode hf, henc]; rfl
  case decode => rw [exec_bDecode (s := t) hf hp, show ansBit p t.ans1.r.toNat = bit from hbit]; rfl
  case advance => rw [exec_bDecodeAdvance (s := t) hf, hx1, ← State.lock_ans1, hb]; rfl

end Sys2Proof.Machine
end

section
/-! SUPPORT. The chunk encoder (R151 to R153): buffering a bit, and that coding the buffered bits leaves at the top of
`B1MEM` what `bitWalk` says. -/

namespace Sys2Proof.Machine

/-! ### The operations -/

section
variable {s : State} (h : s.encoding)
include h

theorem exec_bChunkPutBit (bit : Bool) (p : Byte) :
    exec (.bChunkPutBit bit p) s = ((chunkPutBit bit p s.lock).map fun _ => Returns.nothing).outcome :=
  show execBChunkPutBit bit p s = _ from runOp_legal h.1 (by simp [Legal.allows, h.2])

theorem exec_bChunkFlush : exec .bChunkFlush s = ((chunkFlush s.lock).map fun _ => Returns.nothing).outcome :=
  show execBChunkFlush s = _ from runOp_legal h.1 (by simp [Legal.allows, h.2])

end

/-- A body made of moves that answers `Success` has ended with a value. -/
theorem Reply.ok_of_success {P : State → Prop} {x : Reply Returns} {t : State} (h : x.Ends P)
    (ht : x.outcome = .next t) (hr : t.ctl.result = .success) :
    ∃ ret u, x = .ok ret u ∧ t = u.answer .success ret := by
  rcases Reply.outcome_eq_next.mp ht with hok | ⟨w, u, rfl, rfl⟩ | rfl
  · exact hok
  · cases w <;> cases hr
  · obtain ⟨c, u, -, rfl⟩ := h
    cases hr

/-! ### Buffering a bit -/

section
variable {s : State} {bit : Bool} {p : Byte}

theorem chunkFlush_empty (h : s.ans1.count = 0) : chunkFlush s = .ok () s := if_pos h

theorem chunkFlush_waits (h : s.ans1.count ≠ 0) (ho : s.queues.outLo.toNat < 65536) :
    chunkFlush s = .wait .output s := by
  have hfull : s.queues.popAvail .output ≠ 0 := by simp only [Queues.popAvail, Config.outSize]; omega
  rw [chunkFlush, if_neg h, if_pos hfull]

theorem chunkFlush_runs (h : s.ans1.count ≠ 0) (ho : s.queues.outLo.toNat = 65536) :
    chunkFlush s = (chunkCode s).bind fun _ u =>
      .ok () { (u.push .output u.ans1.payload).push .output (beBytes 2 u.ans1.payload.length) with
        ans1 := { u.ans1 with count := 0 } } := by
  have hempty : ¬ s.queues.popAvail .output ≠ 0 := by simp only [Queues.popAvail, Config.outSize]; omega
  rw [chunkFlush, if_neg h, if_neg hempty]
  rfl

theorem chunkPutBit_refused (h : p = 0 ∨ s.ctl.encFinished = true) :
    chunkPutBit bit p s = raise .protocolViolation s := by
  unfold chunkPutBit
  split
  · rfl
  · exact if_pos (h.resolve_left ‹_›)

theorem chunkPutBit_room (hp : p ≠ 0) (he : s.ctl.encFinished = false) (hc : s.ans1.count.toNat < 16384) :
    chunkPutBit bit p s = .ok () { s with ans1 := s.ans1.bufferBit bit p } := by
  rw [chunkPutBit, if_neg hp, if_neg (by simp [he]), if_neg (Nat.ne_of_lt hc)]
  rfl

theorem chunkPutBit_full (hp : p ≠ 0) (he : s.ctl.encFinished = false) (hc : s.ans1.count.toNat = 16384) :
    chunkPutBit bit p s = (chunkFlush s).bind fun _ u => .ok () { u with ans1 := u.ans1.bufferBit bit p } := by
  rw [chunkPutBit, if_neg hp, if_neg (by simp [he]), if_pos hc]

end

/-- Settles O19: a flush that completes leaves no bit buffered, so the bit after it goes to cell 0. -/
theorem chunkPutBitResult : Obligations.ChunkPutBitResult := by
  intro s bit p henc hcan
  obtain ⟨-, ⟨hbuf, -⟩, -⟩ := s.memoriesCanonical_iff.mp hcan
  have hnonzero (h : s.ans1.count.toNat = 16384) : s.ans1.count ≠ 0 := fun h0 => by simp [h0] at h
  refine ⟨?refused, ?room, ?waits, ?flushed⟩
  case refused =>
    intro h
    rw [exec_bChunkPutBit henc, chunkPutBit_refused (s := s.lock) h]
    rfl
  case room =>
    intro hp he hc
    refine ⟨_, ?_, fun a => Memory.read_write hbuf s.ans1.count.toNat a ⟨bit, p⟩⟩
    rw [exec_bChunkPutBit henc, chunkPutBit_room (s := s.lock) hp he hc]
    rfl
  case waits =>
    intro hp he hc ho
    rw [exec_bChunkPutBit henc, chunkPutBit_full (s := s.lock) hp he hc,
      chunkFlush_waits (s := s.lock) (hnonzero hc) ho]
    rfl
  case flushed =>
    intro hp he hc t ht hr
    rw [exec_bChunkFlush henc] at ht
    have hends := (chunkFlush_ends (W := fun _ => true) (s := s.lock) rfl rfl).map (f := fun _ => Returns.nothing)
    obtain ⟨ret, u, hok, rfl⟩ := Reply.ok_of_success hends ht hr
    obtain ⟨_, hflush, rfl⟩ := Reply.map_eq_ok.mp hok
    have hcount : u.ans1.bufferBit bit p =
        { u.ans1 with buf := Memory.write BitCell.zero u.ans1.buf 0 ⟨bit, p⟩, count := 1 } := by
      rw [Ans1.bufferBit, chunkFlush_count hflush]
      rfl
    rw [exec_bChunkPutBit henc, chunkPutBit_full (s := s.lock) hp he hc, hflush]
    show Host.Outcome.next (State.answer .success .nothing { u with ans1 := u.ans1.bufferBit bit p }) = _
    rw [hcount]
    rfl

/-! ### The walk over the buffered bits -/

/-- One bit more in the walk: the register and the bytes below the top of `B1MEM` (R141). -/
def bitStep (c : BitCell) (w : Nat × List Byte) : Nat × List Byte :=
  (ansUpdate c.bit c.p (ansKept c.bit c.p w.1),
    if ansXMax c.bit c.p ≤ w.1 then beBytes 4 w.1 ++ w.2 else w.2)

theorem bitStep_below {c : BitCell} {w : Nat × List Byte} (h : w.1 < ansXMax c.bit c.p) :
    bitStep c w = (ansUpdate c.bit c.p w.1, w.2) := by
  rw [bitStep, ansKept_below h, if_neg (Nat.not_le.mpr h)]

theorem bitStep_emits {c : BitCell} {w : Nat × List Byte} (h : ansXMax c.bit c.p ≤ w.1) :
    bitStep c w = (ansUpdate c.bit c.p (w.1 / 2 ^ 32), beBytes 4 w.1 ++ w.2) := by
  rw [bitStep, ansKept_emits h, if_pos h]

theorem bitWalk_succ (cell : Nat → BitCell) (n d : Nat) :
    bitWalk cell n (d + 1) = bitStep (cell (n - 1 - d)) (bitWalk cell n d) := by
  have hlow (r : Nat) : beBytes 4 (r % 2 ^ 32) = beBytes 4 r := beBytes_emod 4 r
  simp only [bitWalk, hlow]
  rfl

/-- After `d` bits: the register is normalized, whole words are out, and each 4 bytes out took the register 32 binary
places down while each bit took it at most 8 up, so there are at most `d` bytes. -/
structure WalkBounded (d : Nat) (w : Nat × List Byte) : Prop where
  normal : normalized w.1
  words : w.2.length % 4 = 0
  short : w.2.length ≤ d
  places : w.1 < 2 ^ (32 + 8 * (d - w.2.length))

/-- A bit takes the register at most 8 binary places up. -/
theorem ansUpdate_lt_two_pow {bit : Bool} {p : Byte} (hp : p ≠ 0) {r m : Nat} (h : r < 2 ^ m) :
    ansUpdate bit p r < 2 ^ (m + 8) := by
  rw [Nat.pow_add]
  exact ansUpdate_lt hp (h.trans_le (Nat.le_mul_of_pos_right _ (ansLs_bounds hp).1))

theorem bitStep_bounded {c : BitCell} {d : Nat} {w : Nat × List Byte} (hp : c.p ≠ 0) (h : WalkBounded d w) :
    WalkBounded (d + 1) (bitStep c w) := by
  obtain ⟨hnormal, hwords, hshort, hplaces⟩ := h
  have hnext : normalized (bitStep c w).1 := normalized_step hp hnormal
  rcases Nat.lt_or_ge w.1 (ansXMax c.bit c.p) with hx | hx
  · have hup := ansUpdate_lt_two_pow (bit := c.bit) hp hplaces
    rw [show 32 + 8 * (d - w.2.length) + 8 = 32 + 8 * (d + 1 - w.2.length) by omega] at hup
    rw [bitStep_below hx] at hnext ⊢
    exact ⟨hnext, hwords, Nat.le_succ_of_le hshort, hup⟩
  · have hlen : (beBytes 4 w.1 ++ w.2).length = w.2.length + 4 := by simp [Nat.add_comm]
    have hmany : 55 < 32 + 8 * (d - w.2.length) := by
      have hbig : 2 ^ 55 ≤ w.1 := (Nat.le_mul_of_pos_right _ (ansLs_bounds hp).1).trans hx
      exact (Nat.pow_lt_pow_iff_right (by decide)).mp (hbig.trans_lt hplaces)
    have hkept : w.1 / 2 ^ 32 < 2 ^ (8 * (d - w.2.length)) := by
      rw [Nat.pow_add] at hplaces
      exact Nat.div_lt_of_lt_mul hplaces
    have hup := ansUpdate_lt_two_pow (bit := c.bit) hp hkept
    rw [show 8 * (d - w.2.length) + 8 = 32 + 8 * (d + 1 - (w.2.length + 4)) by omega, ← hlen] at hup
    rw [bitStep_emits hx] at hnext ⊢
    exact ⟨hnext, by rw [hlen]; omega, by rw [hlen]; omega, hup⟩

theorem bitWalk_bounded {cell : Nat → BitCell} {n : Nat} (hp : ∀ i < n, (cell i).p ≠ 0) {d : Nat} (hd : d ≤ n) :
    WalkBounded d (bitWalk cell n d) := by
  induction d with
  | zero =>
    have hlt : 2147483648 < 2 ^ 63 := by decide
    have hplaces : 2147483648 < 2 ^ 32 := by decide
    exact ⟨⟨Nat.le_refl _, hlt⟩, rfl, Nat.le_refl _, hplaces⟩
  | succ d ih =>
    rw [bitWalk_succ]
    exact bitStep_bounded (hp _ (by omega)) (ih (Nat.le_of_succ_le hd))

/-! ### Coding the buffered bits -/

/-- `b` is `a` after a walk from the initial state of the coder has come to `w`: the register is that of `w`, the bytes
of `w` stand from the cursor to the top of `B1MEM`, and nothing else has changed. -/
structure Ans1.Coded (a : Ans1) (w : Nat × List Byte) (b : Ans1) : Prop where
  frame : b = { a with r := b.r, cursor := b.cursor, mem := b.mem }
  register : b.r.toNat = w.1
  top : w.2.length + b.cursor.toNat = 65536
  written : Memory.readList 0 b.mem b.cursor.toNat w.2.length = w.2
  canonical : Memory.wf 0 b.mem = true
  outside : ∀ x, x < b.cursor.toNat ∨ 65536 ≤ x → Memory.read 0 b.mem x = Memory.read 0 a.mem x

theorem Ans1.coded_encodeInit {a : Ans1} (h : Memory.wf 0 a.mem = true) : a.Coded (2147483648, []) a.encodeInit :=
  ⟨rfl, by simp [Ans1.encodeInit, Config.ansL], by simp [Ans1.encodeInit], rfl, h, fun _ _ => rfl⟩

section
variable {a b : Ans1} {w : Nat × List Byte}

theorem Ans1.Coded.setRegister (h : a.Coded w b) {r : BitVec 64} {v : Nat} (hr : r.toNat = v) :
    a.Coded (v, w.2) { b with r := r } where
  frame := by rw [h.frame]
  register := hr
  top := h.top
  written := h.written
  canonical := h.canonical
  outside := h.outside

/-- Bytes written just below the cursor go before those that were there. -/
theorem Ans1.Coded.write (h : a.Coded w b) {c : BitVec 32} {bs : List Byte} (hroom : bs.length ≤ b.cursor.toNat)
    (hc : c.toNat = b.cursor.toNat - bs.length) :
    a.Coded (w.1, bs ++ w.2)
      { b with cursor := c, mem := Memory.writeList 0 b.mem (b.cursor.toNat - bs.length) bs } where
  frame := by rw [h.frame]
  register := h.register
  top := by
    have := h.top
    simp only [List.length_append, hc]
    omega
  written := by
    have hold : Memory.readList 0 (Memory.writeList 0 b.mem (b.cursor.toNat - bs.length) bs) b.cursor.toNat
        w.2.length = w.2 := by
      rw [Memory.readList_eq_map]
      refine (List.map_congr_left fun k _ => ?_).trans
        ((Memory.readList_eq_map b.mem b.cursor.toNat w.2.length).symm.trans h.written)
      exact Memory.read_writeList_of_outside h.canonical (.inr (by omega))
    simp only [List.length_append, hc]
    rw [Memory.readList_add, Memory.readList_writeList h.canonical, Nat.sub_add_cancel hroom, hold]
  canonical := Memory.wf_writeList _ _ h.canonical
  outside := by
    intro x hx
    have htop := h.top
    rw [hc] at hx
    rw [Memory.read_writeList_of_outside h.canonical (by omega), h.outside x (by omega)]

/-- One bit more: the encoding step does what the step of the walk says. -/
theorem ansEncode_coded {s : State} {c : BitCell} (h : a.Coded w s.ans1) (hp : c.p ≠ 0) (hr : normalized w.1)
    (hroom : w.2.length + 4 ≤ 65536) :
    ∃ b, ansEncode c.bit c.p s = .ok () { s with ans1 := b } ∧ a.Coded (bitStep c w) b := by
  have hreg := toNat_ofNat_step (bit := c.bit) hp hr
  rcases Nat.lt_or_ge w.1 (ansXMax c.bit c.p) with hx | hx
  · refine ⟨_, ansEncode_below hp (h.register ▸ hx), ?_⟩
    rw [ansKept_below hx] at hreg
    rw [bitStep_below hx, h.register]
    exact h.setRegister hreg
  · have htop := h.top
    have hc : 4 ≤ s.ans1.cursor.toNat := by omega
    have hcursor : (s.ans1.cursor - 4).toNat = s.ans1.cursor.toNat - 4 := by bv_omega
    refine ⟨_, ansEncode_emits hp (h.register ▸ hx) hc, ?_⟩
    rw [ansKept_emits hx] at hreg
    rw [bitStep_emits hx, h.register]
    exact (h.write (bs := beBytes 4 w.1) hc hcursor).setRegister hreg

end

/-- The walk over the bits buffered in `a`, `d` of them coded (R152). -/
def Ans1.walk (a : Ans1) (d : Nat) : Nat × List Byte :=
  bitWalk (fun i => Memory.read BitCell.zero a.buf i) a.count.toNat d

/-- What the buffered bits make: the last register value, and the payload of the chunk (R152). -/
def Ans1.chunk (a : Ans1) : Nat × List Byte :=
  ((a.walk a.count.toNat).1, beBytes 8 (a.walk a.count.toNat).1 ++ (a.walk a.count.toNat).2)

section
variable {a : Ans1} (hp : ∀ i < a.count.toNat, (Memory.read BitCell.zero a.buf i).p ≠ 0) (hn : a.count.toNat ≤ 16384)
include hp

theorem Ans1.walk_bounded {d : Nat} (hd : d ≤ a.count.toNat) : WalkBounded d (a.walk d) := bitWalk_bounded hp hd

include hn

/-- The loop of R152 follows the walk, from wherever in it to its end. -/
theorem chunkEncode_coded {k d : Nat} {s : State} (hd : k + d = a.count.toNat) (h : a.Coded (a.walk d) s.ans1) :
    ∃ b, chunkEncode k s = .ok () { s with ans1 := b } ∧ a.Coded (a.walk a.count.toNat) b := by
  induction k generalizing d s with
  | zero =>
    rw [Nat.zero_add] at hd
    exact ⟨s.ans1, rfl, hd ▸ h⟩
  | succ k ih =>
    have hbuf : s.ans1.buf = a.buf := by rw [h.frame]
    have hbound := a.walk_bounded hp (d := d) (by omega)
    have hnext : a.walk (d + 1) = bitStep (Memory.read BitCell.zero a.buf k) (a.walk d) := by
      rw [Ans1.walk, bitWalk_succ, show a.count.toNat - 1 - d = k by omega]
      rfl
    obtain ⟨b, hstep, hb⟩ := ansEncode_coded h (hp k (by omega)) hbound.normal (by have := hbound.short; omega)
    rw [← hnext] at hb
    rw [chunkEncode, hbuf, hstep]
    exact ih (s := { s with ans1 := b }) (by omega) hb

theorem Ans1.chunk_length :
    8 ≤ a.chunk.2.length ∧ a.chunk.2.length ≤ 16396 ∧ a.chunk.2.length % 4 = 0 := by
  obtain ⟨-, hwords, hshort, -⟩ := a.walk_bounded hp (Nat.le_refl _)
  have hlen : a.chunk.2.length = 8 + (a.walk a.count.toNat).2.length := by simp [Ans1.chunk]
  omega

/-- The procedure of R152 leaves the last value of the register and the words before it. -/
theorem chunkCode_coded {s : State} (hs : s.ans1 = a) (hmem : Memory.wf 0 a.mem = true) :
    ∃ b, chunkCode s = .ok () { s with ans1 := b } ∧ a.Coded a.chunk b := by
  subst hs
  obtain ⟨b, hcode, hb⟩ := chunkEncode_coded hp hn (s := { s with ans1 := s.ans1.encodeInit }) (Nat.add_zero _)
    (Ans1.coded_encodeInit hmem)
  have hbound := s.ans1.walk_bounded hp (Nat.le_refl _)
  have htop := hb.top
  have hshort := hbound.short
  have hc : 8 ≤ b.cursor.toNat := by omega
  have hcursor : (b.cursor - 8).toNat = b.cursor.toNat - 8 := by bv_omega
  have hcoded := hb.write (bs := beBytes 8 b.r.toNat) hc hcursor
  rw [hb.register] at hcoded
  refine ⟨_, ?_, hcoded⟩
  rw [chunkCode, hcode]
  show ansFlush { s with ans1 := b } = _
  rw [ansFlush_emits hc, ← hb.register]
  rfl

end

/-! ### The chunk in `OUT` -/

/-- A block that fits is all taken, and comes out before what was there (R126). -/
theorem Queues.popBytes_push_output {qs : Queues} {src : List Byte} (hm : Memory.wf 0 qs.outMem = true)
    (hlo : qs.outLo.toNat ≤ 65536) (hroom : src.length ≤ qs.outLo.toNat) :
    (qs.push .output src).popBytes .output 65536 = src ++ qs.popBytes .output 65536 := by
  have hall : (qs.push .output src).popBytes .output 65536 =
      src.take (min src.length qs.outLo.toNat) ++ qs.popBytes .output 65536 :=
    (queueOrder { qs with inMem := [], inRd := 0, inWr := 0 } src rfl hm (Nat.zero_le _) (Nat.zero_le _) hlo).2
  rwa [Nat.min_eq_left hroom, List.take_length] at hall

theorem Queues.push_output_outLo {qs : Queues} {src : List Byte} (hlo : qs.outLo.toNat ≤ 65536)
    (hroom : src.length ≤ qs.outLo.toNat) : (qs.push .output src).outLo.toNat = qs.outLo.toNat - src.length := by
  simp only [Queues.push, Queues.pushCount, Queues.pushAvail, Nat.min_eq_left hroom, BitVec.toNat_ofNat]
  omega

/-- Two blocks pushed on the empty stack come out in the other order (R153). -/
theorem Queues.popBytes_push_push {qs : Queues} {first second : List Byte} (hm : Memory.wf 0 qs.outMem = true)
    (hlo : qs.outLo.toNat = 65536) (hroom : first.length + second.length ≤ 65536) :
    ((qs.push .output first).push .output second).popBytes .output 65536 = second ++ first := by
  have houtLo := Queues.push_output_outLo (qs := qs) (src := first) (by omega) (by omega)
  have hempty : qs.popBytes .output 65536 = [] := by
    have hnone : qs.popCount .output 65536 = 0 := by simp only [Queues.popCount, Queues.popAvail, Config.outSize]; omega
    rw [Queues.popBytes, hnone]
    rfl
  rw [Queues.popBytes_push_output (Memory.wf_writeList _ _ hm) (by omega) (by omega),
    Queues.popBytes_push_output hm (by omega) (by omega), hempty, List.append_nil]

theorem Ans1.Coded.payload_eq {a b : Ans1} {w : Nat × List Byte} (h : a.Coded w b) : b.payload = w.2 := by
  have htop := h.top
  have hsize : Config.b1memSize - b.cursor.toNat = w.2.length := by simp only [Config.b1memSize]; omega
  rw [Ans1.payload, hsize, h.written]

theorem Ans1.Coded.getElem?_written {a b : Ans1} {w : Nat × List Byte} (h : a.Coded w b) {i : Nat}
    (hi : i < w.2.length) : w.2[i]? = some (Memory.read 0 b.mem (b.cursor.toNat + i)) := by
  rw [← Memory.getElem?_readList _ _ _ i hi, h.written]

/-- A flush that runs leaves the coded chunk in `B1MEM`, and in `OUT` behind its length (R153). -/
theorem chunkFlush_coded {s : State} (hcount : s.ans1.count ≠ 0) (hn : s.ans1.count.toNat ≤ 16384)
    (ho : s.queues.outLo.toNat = 65536) (hp : ∀ i < s.ans1.count.toNat, (Memory.read BitCell.zero s.ans1.buf i).p ≠ 0)
    (hmem : Memory.wf 0 s.ans1.mem = true) (hout : Memory.wf 0 s.queues.outMem = true) :
    ∃ b outMem outLo,
      chunkFlush s = .ok () { s with
        ans1 := { s.ans1 with r := b.r, cursor := b.cursor, mem := b.mem, count := 0 }
        queues := { s.queues with outMem := outMem, outLo := outLo } } ∧
      s.ans1.Coded (s.ans1.chunk) b ∧
      ({ s.queues with outMem := outMem, outLo := outLo } : Queues).popBytes .output 65536 =
        beBytes 2 s.ans1.chunk.2.length ++ s.ans1.chunk.2 := by
  obtain ⟨b, hcode, hb⟩ := chunkCode_coded hp hn rfl hmem
  have hlen := s.ans1.chunk_length hp hn
  have hframe : ({ b with count := 0 } : Ans1) =
      { s.ans1 with r := b.r, cursor := b.cursor, mem := b.mem, count := 0 } := by rw [hb.frame]
  refine ⟨b, _, _, ?run, hb, Queues.popBytes_push_push hout ho (by rw [length_beBytes]; omega)⟩
  rw [chunkFlush_runs hcount ho, hcode]
  show Reply.ok () _ = _
  rw [hframe, hb.payload_eq]
  rfl

/-- Settles O20: the chunk that the flush leaves, with its length in the bounds of the walk. -/
theorem chunkFlushResult : Obligations.ChunkFlushResult := by
  intro s henc hcan
  obtain ⟨⟨-, hout⟩, ⟨-, hmem⟩, -⟩ := s.memoriesCanonical_iff.mp hcan
  refine ⟨?empty, ?waits, ?flushes⟩
  case empty =>
    intro h
    rw [exec_bChunkFlush henc, chunkFlush_empty (s := s.lock) h]
    rfl
  case waits =>
    intro h ho
    rw [exec_bChunkFlush henc, chunkFlush_waits (s := s.lock) h ho]
    rfl
  case flushes =>
    intro hcount hn ho hp
    obtain ⟨hmin, hmax, hwords⟩ := s.ans1.chunk_length hp hn
    obtain ⟨b, outMem, outLo, hflush, hb, hpop⟩ := chunkFlush_coded (s := s.lock) hcount hn ho hp hmem hout
    have hrun := exec_bChunkFlush henc
    rw [hflush] at hrun
    exact ⟨_, hrun, rfl, hmin, hmax, hwords, hpop, hb.register, hb.top, fun _ => hb.getElem?_written, hb.outside⟩

end Sys2Proof.Machine
end

section
/-! SUPPORT. The chunk decoder (R154, R155): its phases, and that the passes its loop has are enough, so that going on
from a later phase is the same operation. -/

namespace Sys2Proof.Machine

theorem exec_bChunkGetBit {s : State} (h : s.decoding) (p : Byte) :
    exec (.bChunkGetBit p) s = ((chunkGetBit p s.lock).map Returns.bit).outcome :=
  show execBChunkGetBit p s = _ from runOp_legal h.1 h.2

/-! ### Chains -/

theorem Reply.bind_assoc {α β γ : Type} (x : Reply α) (k : α → State → Reply β) (l : β → State → Reply γ) :
    (x.bind k).bind l = x.bind fun a s => (k a s).bind l := by
  cases x <;> rfl

theorem Reply.bind_congr {α β : Type} {x : Reply α} {k l : α → State → Reply β}
    (h : ∀ a s, x = .ok a s → k a s = l a s) : x.bind k = x.bind l := by
  cases x with
  | ok a s => exact h a s rfl
  | _ => rfl

/-! ### One pass -/

/-- The first two parts of R154: what comes before the bits of a chunk. -/
def chunkLoad (s : State) : Reply Unit := (chunkHeader s).bind fun _ u => chunkPayload u

/-- The chunk has no bit left (R155). -/
abbrev Ans1.usedUp (a : Ans1) : Prop := a.cursor.toNat = a.len.toNat ∧ a.r.toNat = 2147483648

/-- The rest of a pass, with `n` passes left: a chunk that is used up makes room for the next, another gives a bit. -/
def chunkRun (p : Byte) (n : Nat) (s : State) : Reply Bool :=
  if s.ans1.usedUp then chunkGetLoop p n { s with ans1 := { s.ans1 with phase := .needHdr } }
  else (ansAdvance s.ans1.len.toNat (ansX1 p s.ans1.r.toNat) s).map fun _ => ansBit p s.ans1.r.toNat

theorem chunkGetLoop_succ (p : Byte) (n : Nat) (s : State) :
    chunkGetLoop p (n + 1) s = (chunkLoad s).bind fun _ u => chunkRun p n u := by
  rw [chunkLoad, Reply.bind_assoc]
  rfl

theorem chunkGetBit_zero (s : State) : chunkGetBit 0 s = raise .protocolViolation s := if_pos rfl

theorem chunkGetBit_eq {p : Byte} (hp : p ≠ 0) (s : State) :
    chunkGetBit p s = (chunkLoad s).bind fun _ u => chunkRun p (s.queues.popAvail .input + 1) u := by
  rw [chunkGetBit, if_neg hp, chunkGetLoop_succ]

section
variable {s : State}

theorem chunkHeader_skips (h : s.ans1.phase ≠ .needHdr) : chunkHeader s = .ok () s := if_pos h

theorem chunkHeader_waits (h : s.ans1.phase = .needHdr) (ha : s.queues.popAvail .input < 2) :
    chunkHeader s = .wait .input s := by
  rw [chunkHeader, if_neg (not_not_intro h), if_pos ha]

theorem chunkHeader_malformed (h : s.ans1.phase = .needHdr) (ha : 2 ≤ s.queues.popAvail .input)
    (hlen : fromBE (s.queues.popBytes .input 2) < 8 ∨ fromBE (s.queues.popBytes .input 2) % 4 ≠ 0) :
    chunkHeader s = raise .malformedChunk (s.pop .input 2) := by
  rw [chunkHeader, if_neg (not_not_intro h), if_neg (Nat.not_lt.mpr ha)]
  dsimp only
  rw [if_pos hlen]

theorem chunkHeader_taken (h : s.ans1.phase = .needHdr) (ha : 2 ≤ s.queues.popAvail .input)
    (hmin : 8 ≤ fromBE (s.queues.popBytes .input 2)) (hwords : fromBE (s.queues.popBytes .input 2) % 4 = 0) :
    chunkHeader s = .ok () { s.pop .input 2 with
      ans1 := { s.ans1 with
        len := BitVec.ofNat 16 (fromBE (s.queues.popBytes .input 2))
        phase := .needPayload } } := by
  rw [chunkHeader, if_neg (not_not_intro h), if_neg (Nat.not_lt.mpr ha)]
  dsimp only
  rw [if_neg (by omega), State.pop_ans1]

theorem chunkPayload_skips (h : s.ans1.phase ≠ .needPayload) : chunkPayload s = .ok () s := if_pos h

theorem chunkPayload_waits (h : s.ans1.phase = .needPayload) (ha : s.queues.popAvail .input < s.ans1.len.toNat) :
    chunkPayload s = .wait .input s := by
  rw [chunkPayload, if_neg (not_not_intro h), if_pos ha]

/-- ANS1 with a payload loaded and the decoder started on it (R154, R147). -/
def Ans1.loaded (payload : List Byte) (a : Ans1) : Ans1 :=
  let b := { a with mem := Memory.writeList 0 a.mem 0 payload }
  { b with r := b.decodeInit.r, cursor := 8, phase := .run }

theorem Ans1.loaded_eq (payload : List Byte) (a : Ans1) :
    a.loaded payload =
      { a with mem := (a.loaded payload).mem, r := (a.loaded payload).r, cursor := 8, phase := .run } := rfl

theorem Ans1.loaded_r_bytes (payload : List Byte) (a : Ans1) {i : Nat} (hi : i < 8) :
    BitVec.ofNat 8 ((a.loaded payload).r.toNat / 2 ^ (8 * (7 - i))) = Memory.read 0 (a.loaded payload).mem i :=
  Ans1.decodeInit_r_bytes _ hi

theorem Ans1.read_loaded {a : Ans1} (h : Memory.wf 0 a.mem = true) (payload : List Byte) (i : Nat) :
    Memory.read 0 (a.loaded payload).mem i = (payload[i]?).getD (Memory.read 0 a.mem i) :=
  Memory.read_writeList h 0 i payload

theorem chunkPayload_taken (h : s.ans1.phase = .needPayload) (ha : s.ans1.len.toNat ≤ s.queues.popAvail .input) :
    chunkPayload s = .ok () { s.pop .input s.ans1.len.toNat with
      ans1 := s.ans1.loaded (s.queues.popBytes .input s.ans1.len.toNat) } := by
  rw [chunkPayload, if_neg (not_not_intro h), if_neg (Nat.not_lt.mpr ha)]
  rfl

/-- A running chunk is loaded. -/
theorem chunkLoad_running (h : s.ans1.phase = .run) : chunkLoad s = .ok () s := by
  rw [chunkLoad, chunkHeader_skips (by simp [h])]
  exact chunkPayload_skips (by simp [h])

theorem chunkLoad_payload (h : s.ans1.phase = .needPayload) : chunkLoad s = chunkPayload s := by
  rw [chunkLoad, chunkHeader_skips (by simp [h])]
  rfl

/-- With the header taken the load goes on with the payload. -/
theorem chunkLoad_header (h : s.ans1.phase = .needHdr) (ha : 2 ≤ s.queues.popAvail .input)
    (hmin : 8 ≤ fromBE (s.queues.popBytes .input 2)) (hwords : fromBE (s.queues.popBytes .input 2) % 4 = 0) :
    chunkLoad s = chunkLoad { s.pop .input 2 with
      ans1 := { s.ans1 with
        len := BitVec.ofNat 16 (fromBE (s.queues.popBytes .input 2))
        phase := .needPayload } } := by
  rw [chunkLoad, chunkHeader_taken h ha hmin hwords, chunkLoad_payload (by rfl), Reply.bind]

end

/-! ### The passes are enough -/

/-- A pop of at least a byte takes just that many away, whatever the indices. -/
theorem Queues.popAvail_pop_input {qs : Queues} {n : Nat} (hpos : 0 < n) (hn : n ≤ qs.popAvail .input) :
    (qs.pop .input n).popAvail .input = qs.popAvail .input - n := by
  have hcount : qs.popCount .input n = n := Nat.min_eq_left hn
  simp only [Queues.pop, hcount]
  simp only [Queues.popAvail, Config.inSlots, BitVec.toNat_ofNat] at hn ⊢
  omega

section
variable {s u v : State}

/-- A header that is taken leaves fewer bytes, and a payload of at least 8 to come. -/
theorem chunkHeader_ok (h : chunkHeader s = .ok () u) :
    (s.ans1.phase ≠ .needHdr ∧ u = s) ∨
      (u.ans1.phase = .needPayload ∧ u.queues.popAvail .input < s.queues.popAvail .input) := by
  unfold chunkHeader at h
  split at h
  next hphase => cases h; exact .inl ⟨hphase, rfl⟩
  next =>
    split at h
    next => cases h
    next ha =>
      dsimp only at h
      split at h
      next => cases h
      next =>
        cases h
        have hpop := Queues.popAvail_pop_input (qs := s.queues) (n := 2) (by decide) (by omega)
        exact .inr ⟨rfl, by simp only [State.pop_queues, hpop]; omega⟩

/-- A payload that is taken and already used up had 8 bytes. -/
theorem chunkPayload_ok (h : chunkPayload s = .ok () u) (hu : u.ans1.usedUp) :
    u.queues.popAvail .input ≤ s.queues.popAvail .input := by
  by_cases hphase : s.ans1.phase = .needPayload
  · rcases Nat.lt_or_ge (s.queues.popAvail .input) s.ans1.len.toNat with ha | ha
    · rw [chunkPayload_waits hphase ha] at h
      cases h
    · rw [chunkPayload_taken hphase ha, Ans1.loaded_eq] at h
      cases h
      have hlen : (8 : BitVec 32).toNat = s.ans1.len.toNat := hu.1
      have hpop := Queues.popAvail_pop_input (qs := s.queues) (hlen ▸ by decide) ha
      exact hpop.trans_le (Nat.sub_le _ _)
  · rw [chunkPayload_skips hphase] at h
    cases h
    exact Nat.le_refl _

/-- A pass that goes on to another has not put bytes into `IN`, and has taken some where it began with a header. -/
theorem chunkLoad_popAvail (h : chunkLoad s = .ok () v) (hv : v.ans1.usedUp) :
    v.queues.popAvail .input ≤ s.queues.popAvail .input ∧
      (s.ans1.phase = .needHdr → v.queues.popAvail .input < s.queues.popAvail .input) := by
  obtain ⟨_, u, hheader, hpayload⟩ := Reply.bind_eq_ok.mp h
  have hle := chunkPayload_ok hpayload hv
  rcases chunkHeader_ok hheader with ⟨hphase, rfl⟩ | ⟨-, hlt⟩
  · exact ⟨hle, fun hhdr => absurd hhdr hphase⟩
  · exact ⟨by omega, fun _ => by omega⟩

theorem chunkGetLoop_waits (hphase : s.ans1.phase = .needHdr) (ha : s.queues.popAvail .input < 2) (p : Byte) (n : Nat) :
    chunkGetLoop p n s = .wait .input s := by
  cases n with
  | zero => rfl
  | succ n =>
    rw [chunkGetLoop_succ, chunkLoad, chunkHeader_waits hphase ha]
    rfl

/-- From a header on, a pass for every byte in `IN` is enough. -/
theorem chunkGetLoop_fuel {p : Byte} {n m : Nat} (hphase : s.ans1.phase = .needHdr)
    (hn : s.queues.popAvail .input ≤ n) (hm : s.queues.popAvail .input ≤ m) :
    chunkGetLoop p n s = chunkGetLoop p m s := by
  induction n generalizing m s with
  | zero => rw [chunkGetLoop_waits hphase (by omega), chunkGetLoop_waits hphase (by omega)]
  | succ n ih =>
    cases m with
    | zero => rw [chunkGetLoop_waits hphase (by omega), chunkGetLoop_waits hphase (by omega)]
    | succ m =>
      rw [chunkGetLoop_succ, chunkGetLoop_succ]
      refine Reply.bind_congr fun _ v hv => ?_
      unfold chunkRun
      split
      next hused =>
        have hlt := (chunkLoad_popAvail hv hused).2 hphase
        exact ih rfl (show v.queues.popAvail .input ≤ n by omega) (show v.queues.popAvail .input ≤ m by omega)
      next => rfl

theorem chunkRun_fuel {p : Byte} {n m : Nat} (h : s.ans1.usedUp → s.queues.popAvail .input ≤ n)
    (h' : s.ans1.usedUp → s.queues.popAvail .input ≤ m) : chunkRun p n s = chunkRun p m s := by
  unfold chunkRun
  split
  next hused => exact chunkGetLoop_fuel rfl (h hused) (h' hused)
  next => rfl

/-- Two states that load the same chunk get the same bit. -/
theorem chunkGetBit_congr {p : Byte} (hp : p ≠ 0) (h : chunkLoad s = chunkLoad u) :
    chunkGetBit p s = chunkGetBit p u := by
  rw [chunkGetBit_eq hp, chunkGetBit_eq hp, ← h]
  refine Reply.bind_congr fun _ v hv => chunkRun_fuel (fun hused => ?_) fun hused => ?_
  · exact Nat.le_succ_of_le (chunkLoad_popAvail hv hused).1
  · exact Nat.le_succ_of_le (chunkLoad_popAvail (h ▸ hv) hused).1

theorem chunkGetBit_running {p : Byte} (hp : p ≠ 0) (hphase : s.ans1.phase = .run) :
    chunkGetBit p s = chunkRun p (s.queues.popAvail .input + 1) s := by
  rw [chunkGetBit_eq hp, chunkLoad_running hphase]
  rfl

/-- A chunk that is used up goes on to the next header (R155). -/
theorem chunkGetBit_usedUp {p : Byte} (hp : p ≠ 0) (hphase : s.ans1.phase = .run) (hused : s.ans1.usedUp) :
    chunkGetBit p s = chunkGetBit p { s with ans1 := { s.ans1 with phase := .needHdr } } := by
  rw [chunkGetBit_running hp hphase, chunkRun, if_pos hused, chunkGetBit, if_neg hp]
  exact chunkGetLoop_fuel rfl (Nat.le_succ _) (Nat.le_add_right _ 2)

theorem chunkGetBit_bit {p : Byte} (hp : p ≠ 0) (hphase : s.ans1.phase = .run) (hused : ¬ s.ans1.usedUp) :
    chunkGetBit p s =
      (ansAdvance s.ans1.len.toNat (ansX1 p s.ans1.r.toNat) s).map fun _ => ansBit p s.ans1.r.toNat := by
  rw [chunkGetBit_running hp hphase, chunkRun, if_neg hused]

end

theorem Ans1.usedUp_iff (a : Ans1) : a.usedUp ↔ a.cursor.toNat = a.len.toNat ∧ a.r = 0x80000000 := by
  rw [Ans1.usedUp, ← BitVec.toNat_inj]
  rfl

theorem ansX1_eq (p : Byte) (r : Nat) :
    ansX1 p r =
      if ansBit p r = true then (256 - p.toNat) * (r / 256) + r % 256 - p.toNat else p.toNat * (r / 256) + r % 256 := by
  unfold ansX1 ansLs ansBs
  split <;> rfl

/-- An operation that gets the same bit in two decode sessions is the same operation. -/
theorem exec_bChunkGetBit_congr {s u : State} {p : Byte} (hs : s.decoding) (hu : u.decoding)
    (h : chunkGetBit p s.lock = chunkGetBit p u.lock) : exec (.bChunkGetBit p) s = exec (.bChunkGetBit p) u := by
  rw [exec_bChunkGetBit hs, exec_bChunkGetBit hu, h]

/-- Settles O21: each phase by its rule, and going on by `chunkGetBit_congr` and `chunkGetBit_usedUp`. -/
theorem chunkGetBitResult : Obligations.ChunkGetBitResult := by
  intro s p hdec hcan
  obtain ⟨-, ⟨-, hmem⟩, -⟩ := s.memoriesCanonical_iff.mp hcan
  refine ⟨?zero, ?noHeader, ?malformed, ?noPayload, ?header, ?payload, ?usedUp, ?bit⟩
  case zero =>
    rintro rfl
    rw [exec_bChunkGetBit hdec, chunkGetBit_zero]
    rfl
  case noHeader =>
    intro hp hphase ha
    rw [exec_bChunkGetBit hdec, chunkGetBit_eq hp, chunkLoad, chunkHeader_waits (s := s.lock) hphase ha]
    rfl
  case malformed =>
    intro hp hphase ha hlen
    rw [exec_bChunkGetBit hdec, chunkGetBit_eq hp, chunkLoad, chunkHeader_malformed (s := s.lock) hphase ha hlen]
    rfl
  case noPayload =>
    intro hp hphase ha
    rw [exec_bChunkGetBit hdec, chunkGetBit_eq hp, chunkLoad_payload (s := s.lock) hphase,
      chunkPayload_waits (s := s.lock) hphase ha]
    rfl
  case header =>
    intro hp hphase ha hmin hwords
    exact exec_bChunkGetBit_congr hdec hdec
      (chunkGetBit_congr hp (chunkLoad_header (s := s.lock) hphase ha hmin hwords))
  case payload =>
    intro hp hphase ha
    have heq := s.ans1.loaded_eq (s.queues.popBytes .input s.ans1.len.toNat)
    have hload : chunkLoad s.lock = .ok () { s.lock.pop .input s.ans1.len.toNat with
        ans1 := s.ans1.loaded (s.queues.popBytes .input s.ans1.len.toNat) } :=
      (chunkLoad_payload (s := s.lock) hphase).trans (chunkPayload_taken (s := s.lock) hphase ha)
    refine ⟨_, _, exec_bChunkGetBit_congr hdec hdec (chunkGetBit_congr hp ?_), Ans1.read_loaded hmem _,
      fun i => Ans1.loaded_r_bytes _ _⟩
    rw [hload, heq]
    exact (chunkLoad_running rfl).symm
  case usedUp =>
    intro hp hphase hcursor hr
    exact exec_bChunkGetBit_congr hdec hdec (chunkGetBit_usedUp hp hphase (s.ans1.usedUp_iff.mpr ⟨hcursor, hr⟩))
  case bit =>
    intro hp hphase hused r bit x1
    have hbit := chunkGetBit_bit (s := s.lock) hp hphase (mt s.ans1.usedUp_iff.mp hused)
    rw [show ansX1 p s.lock.ans1.r.toNat = x1 from ansX1_eq p r, State.lock_ans1] at hbit
    rw [exec_bChunkGetBit hdec, hbit]
    refine ⟨fun hx => ?keeps, fun hx hc => ?beyond, fun hx hc => ?shifts⟩
    case keeps => rw [ansAdvance_keeps hx]; rfl
    case beyond => rw [ansAdvance_beyond (s := s.lock) hx hc]; rfl
    case shifts =>
      obtain ⟨r', hhigh, hlow, hadv⟩ := ansAdvance_shifts (s := s.lock) hx hc
      refine ⟨r', hhigh, fun i hi => (Memory.read_of_readList_eq_beBytes hlow hi).symm, ?_⟩
      rw [hadv]
      rfl

end Sys2Proof.Machine
end

section
/-! SUPPORT. The symbol coder (R170 to R185): what each of its operations runs, the arithmetic of one symbol (R172,
R180, R181), and the operations that take one symbol (R171, R180). -/

namespace Sys2Proof.Machine

/-! ### The operations -/

section
variable {s : State} (h : s.encoding)
include h

theorem exec_nEncPut (start freq : BitVec 16) :
    exec (.nEncPut start freq) s = ((symPut start freq s.lock).map fun _ => Returns.nothing).outcome :=
  show execNEncPut start freq s = _ from runOp_legal h.1 (by simp [Legal.allows, h.2])

theorem exec_nFlushChunk : exec .nFlushChunk s = ((symFlush s.lock).map fun _ => Returns.nothing).outcome :=
  show execNFlushChunk s = _ from runOp_legal h.1 (by simp [Legal.allows, h.2])

theorem exec_nPutBit (bit : Bool) (p : Byte) :
    exec (.nPutBit bit p) s = ((symPutBit bit p s.lock).map fun _ => Returns.nothing).outcome :=
  show execNPutBit bit p s = _ from runOp_legal h.1 (by simp [Legal.allows, h.2])

end

section
variable {s : State} (h : s.decoding)
include h

theorem exec_nDecFill : exec .nDecFill s = ((symFill s.lock).map fun _ => Returns.nothing).outcome :=
  show execNDecFill s = _ from runOp_legal h.1 h.2

theorem exec_nDecGetOffset :
    exec .nDecGetOffset s = ((symOffset s.lock).map fun o => Returns.offset (BitVec.ofNat 16 o)).outcome :=
  show execNDecGetOffset s = _ from runOp_legal h.1 h.2

theorem exec_nDecAdvanceSym (start freq : BitVec 16) :
    exec (.nDecAdvanceSym start freq) s = ((symAdvance start freq s.lock).map fun _ => Returns.nothing).outcome :=
  show execNDecAdvanceSym start freq s = _ from runOp_legal h.1 h.2

theorem exec_nGetBit (p : Byte) : exec (.nGetBit p) s = ((symGetBit p s.lock).map Returns.bit).outcome :=
  show execNGetBit p s = _ from runOp_legal h.1 h.2

end

/-! ### One symbol -/

section
variable {start freq : Nat} (hpos : 0 < freq) (hle : start + freq ≤ 32768)
include hpos hle

theorem symUpdate_div (x : Nat) : symUpdate start freq x / 32768 = x / freq := by
  have := Nat.mod_lt x hpos
  unfold symUpdate
  omega

theorem symUpdate_mod (x : Nat) : symUpdate start freq x % 32768 = start + x % freq := by
  have := Nat.mod_lt x hpos
  unfold symUpdate
  omega

/-- The decoder's step takes the encoder's back (R181). -/
theorem symX_symUpdate (x : Nat) : symX start freq (symUpdate start freq x) = x := by
  have := Nat.div_add_mod x freq
  rw [symX, symUpdate_div hpos hle, symUpdate_mod hpos hle]
  omega

/-- Below a multiple of the frequency the update stays below the same multiple of the scale. -/
theorem symUpdate_lt {x k : Nat} (h : x < k * freq) : symUpdate start freq x < k * 32768 := by
  have hdiv : x / freq < k := (Nat.div_lt_iff_lt_mul hpos).mpr h
  have := symUpdate_div hpos hle x
  omega

theorem le_symUpdate {x k : Nat} (h : k * freq ≤ x) : k * 32768 ≤ symUpdate start freq x := by
  have hdiv : k ≤ x / freq := (Nat.le_div_iff_mul_le hpos).mpr h
  have := symUpdate_div hpos hle x
  omega

/-- The update does not go down. -/
theorem self_le_symUpdate (x : Nat) : x ≤ symUpdate start freq x := by
  have hfreq : freq ≤ 32768 := by omega
  have hdiv := Nat.div_add_mod x freq
  have hmul := Nat.mul_le_mul_right (x / freq) hfreq
  unfold symUpdate
  omega

end

/-- What is left of `x` after the push test (R172). -/
def symKept (freq x : Nat) : Nat := if rescaleLim freq ≤ x then x / 2 ^ 32 else x

theorem symKept_below {freq x : Nat} (h : x < rescaleLim freq) : symKept freq x = x := if_neg (Nat.not_le.mpr h)

theorem symKept_pushes {freq x : Nat} (h : rescaleLim freq ≤ x) : symKept freq x = x / 2 ^ 32 := if_pos h

/-- The kept state is short exactly where a word was pushed (R181). -/
theorem symKept_short_iff {freq x : Nat} (h : normalized x) :
    rescaleLim freq ≤ x ↔ symKept freq x < 2147483648 := by
  obtain ⟨hlo, hhi⟩ := h
  rcases Nat.lt_or_ge x (rescaleLim freq) with hx | hx
  · rw [symKept_below hx]
    omega
  · rw [symKept_pushes hx]
    omega

/-- Coding a symbol keeps the state normalized (R174). -/
theorem normalized_symStep {start freq x : Nat} (hpos : 0 < freq) (hle : start + freq ≤ 32768) (h : normalized x) :
    normalized (symUpdate start freq (symKept freq x)) := by
  obtain ⟨hlo, hhi⟩ := h
  rcases Nat.lt_or_ge x (rescaleLim freq) with hx | hx
  · rw [symKept_below hx]
    exact ⟨hlo.trans (self_le_symUpdate hpos hle x), symUpdate_lt hpos hle hx⟩
  · rw [symKept_pushes hx]
    have hx' : 2 ^ 48 * freq ≤ x := hx
    have hlow : 2 ^ 16 * freq ≤ x / 2 ^ 32 := by omega
    have hhigh : x / 2 ^ 32 < 2 ^ 48 * freq := by omega
    exact ⟨le_symUpdate hpos hle hlow, symUpdate_lt hpos hle hhigh⟩

/-- Settles O27: `symX_symUpdate` gives back what the push test kept. -/
theorem symbolRoundTrip : Obligations.SymbolRoundTrip := by
  intro x start freq hlo hhi hpos hle kept x1
  obtain ⟨hlo', hhi'⟩ : normalized x1 := normalized_symStep hpos hle ⟨hlo, hhi⟩
  have hoff : x1 % 32768 = start + kept % freq := symUpdate_mod hpos hle kept
  have hlt : kept % freq < freq := Nat.mod_lt kept hpos
  exact ⟨hlo', hhi', by omega, by omega, symX_symUpdate hpos hle kept, symKept_short_iff ⟨hlo, hhi⟩⟩

/-! ### Buffering a symbol -/

section
variable {s : State} {start freq : BitVec 16}

theorem symFlush_empty (h : s.ans2.symCount = 0) : symFlush s = .ok () s := if_pos (by rw [h]; rfl)

theorem symFlush_waits (h : s.ans2.symCount ≠ 0) (ho : s.queues.outLo.toNat < 65536) :
    symFlush s = .wait .output s := by
  have hsome : s.ans2.symCount.toNat ≠ 0 := fun h0 => h (BitVec.eq_of_toNat_eq h0)
  have hfull : s.queues.popAvail .output ≠ 0 := by simp only [Queues.popAvail, Config.outSize]; omega
  exact (if_neg hsome).trans (if_pos hfull)

theorem symFlush_runs (h : s.ans2.symCount ≠ 0) (ho : s.queues.outLo.toNat = 65536) :
    symFlush s = .ok () { s.batchFlushed with
      ctl := { s.batchFlushed.ctl with
        encFinished := s.batchFlushed.ctl.encFinished || decide (s.ans2.symCount.toNat < 16384) } } := by
  have hsome : s.ans2.symCount.toNat ≠ 0 := fun h0 => h (BitVec.eq_of_toNat_eq h0)
  have hempty : ¬ s.queues.popAvail .output ≠ 0 := by simp only [Queues.popAvail, Config.outSize]; omega
  exact (if_neg hsome).trans (if_neg hempty)

theorem symPut_finished (h : s.ctl.encFinished = true) : symPut start freq s = raise .protocolViolation s := if_pos h

section
variable (he : s.ctl.encFinished = false)
include he

theorem symPut_zero : symPut start 0 s = raise .zeroFrequency s := by
  rw [symPut, if_neg (by simp [he]), if_pos rfl]

theorem symPut_beyond (hf : freq ≠ 0) (h : 32768 < start.toNat + freq.toNat) :
    symPut start freq s = raise .protocolViolation s := by
  rw [symPut, if_neg (by simp [he]), if_neg hf, if_pos h]

theorem symPut_legal (hf : freq ≠ 0) (h : start.toNat + freq.toNat ≤ 32768) :
    symPut start freq s = (if s.ans2.symCount.toNat = 16384 then symFlush s else .ok () s).bind fun _ u =>
      .ok () { u with ans2 := u.ans2.bufferSym start freq } := by
  rw [symPut, if_neg (by simp [he]), if_neg hf, if_neg (Nat.not_lt.mpr h)]

theorem symPut_room (hf : freq ≠ 0) (h : start.toNat + freq.toNat ≤ 32768) (hn : s.ans2.symCount.toNat < 16384) :
    symPut start freq s = .ok () { s with ans2 := s.ans2.bufferSym start freq } := by
  rw [symPut_legal he hf h, if_neg (Nat.ne_of_lt hn)]
  rfl

theorem symPut_full (hf : freq ≠ 0) (h : start.toNat + freq.toNat ≤ 32768) (hn : s.ans2.symCount.toNat = 16384) :
    symPut start freq s = (symFlush s).bind fun _ u => .ok () { u with ans2 := u.ans2.bufferSym start freq } := by
  rw [symPut_legal he hf h, if_pos hn]

end

end

/-- Settles O22: a flush of a full buffer that completes leaves no symbol buffered, so the symbol after it goes to
cell 0. -/
theorem symbolPutResult : Obligations.SymbolPutResult := by
  intro s start freq henc hcan
  obtain ⟨-, -, hbuf, -⟩ := s.memoriesCanonical_iff.mp hcan
  refine ⟨?finished, ?zero, ?beyond, fun he hf hle => ⟨?room, ?waits, ?flushed⟩⟩
  case finished =>
    intro he
    rw [exec_nEncPut henc, symPut_finished (s := s.lock) he]
    rfl
  case zero =>
    rintro he rfl
    rw [exec_nEncPut henc, symPut_zero (s := s.lock) he]
    rfl
  case beyond =>
    intro he hf h
    rw [exec_nEncPut henc, symPut_beyond (s := s.lock) he hf h]
    rfl
  case room =>
    intro hn
    refine ⟨_, ?_, fun a => Memory.read_write hbuf s.ans2.symCount.toNat a ⟨start, freq⟩⟩
    rw [exec_nEncPut henc, symPut_room (s := s.lock) he hf hle hn]
    rfl
  case waits =>
    intro hn ho
    have hsome : s.ans2.symCount ≠ 0 := fun h0 => by simp [h0] at hn
    rw [exec_nEncPut henc, symPut_full (s := s.lock) he hf hle hn, symFlush_waits (s := s.lock) hsome ho]
    rfl
  case flushed =>
    intro hn t ht hr
    rw [exec_nFlushChunk henc] at ht
    obtain ⟨hends, hempties⟩ := symFlush_full (W := fun _ => true) (s := s.lock) rfl rfl hn
    obtain ⟨ret, u, hok, rfl⟩ := Reply.ok_of_success (hends.map (f := fun _ => Returns.nothing)) ht hr
    obtain ⟨_, hflush, rfl⟩ := Reply.map_eq_ok.mp hok
    have hbuffer : u.ans2.bufferSym start freq =
        { u.ans2 with symbuf := Memory.write SymCell.zero u.ans2.symbuf 0 ⟨start, freq⟩, symCount := 1 } := by
      rw [Ans2.bufferSym, hempties u hflush]
      rfl
    rw [exec_nEncPut henc, symPut_full (s := s.lock) he hf hle hn, hflush]
    show Host.Outcome.next (State.answer .success .nothing { u with ans2 := u.ans2.bufferSym start freq }) = _
    rw [hbuffer]
    rfl

/-! ### Using a symbol -/

section
variable {s : State} {start freq : BitVec 16}

theorem symAdvance_needsBytes (h : s.ans2.bootNeed ≠ 0 ∨ s.ans2.pullNeed ≠ 0) :
    symAdvance start freq s = raise .protocolViolation s := if_pos h

section
variable (hboot : s.ans2.bootNeed = 0) (hpull : s.ans2.pullNeed = 0)
include hboot hpull

theorem symAdvance_zero : symAdvance start 0 s = raise .zeroFrequency s := by
  rw [symAdvance, if_neg (by simp [hboot, hpull]), if_pos rfl]

theorem symAdvance_unowned (hf : freq ≠ 0)
    (h : ¬ (start.toNat ≤ s.ans2.offset ∧ s.ans2.offset < start.toNat + freq.toNat ∧
      start.toNat + freq.toNat ≤ 32768)) :
    symAdvance start freq s = raise .protocolViolation s := by
  rw [symAdvance, if_neg (by simp [hboot, hpull]), if_neg hf, if_neg h]

theorem symAdvance_owned (hf : freq ≠ 0) (hlo : start.toNat ≤ s.ans2.offset)
    (hhi : s.ans2.offset < start.toNat + freq.toNat) (hle : start.toNat + freq.toNat ≤ 32768) :
    symAdvance start freq s = .ok () { s with ans2 := s.ans2.advance start.toNat freq.toNat } := by
  rw [symAdvance, if_neg (by simp [hboot, hpull]), if_neg hf, if_pos ⟨hlo, hhi, hle⟩]

end

end

theorem Ans2.advance_last {a : Ans2} (start freq : Nat) (h : a.symCount.toNat + 1 = 16384) :
    a.advance start freq = { a with symCount := 0, stateA := 0, stateB := 0, bootNeed := 16, pullNeed := 0 } :=
  if_pos h

theorem Ans2.advance_within {a : Ans2} (start freq : Nat) (h : a.symCount.toNat + 1 ≠ 16384) :
    a.advance start freq =
      { a with
        symCount := a.symCount + 1, stateA := a.stateB
        stateB := BitVec.ofNat 64 (symX start freq a.stateA.toNat)
        pullNeed := if symX start freq a.stateA.toNat < 2147483648 then 4 else a.pullNeed } :=
  if_neg h

/-- Settles O25: the checks of `symAdvance` in their order, and the two kinds of `Ans2.advance`. -/
theorem symbolAdvanceResult : Obligations.SymbolAdvanceResult := by
  intro s start freq hdec off x
  refine ⟨?needsBytes, fun hboot hpull => ⟨?zero, ?unowned, fun hf hlo hhi hle => ?owned⟩⟩
  case needsBytes =>
    intro h
    rw [exec_nDecAdvanceSym hdec, symAdvance_needsBytes (s := s.lock) h]
    rfl
  case zero =>
    rintro rfl
    rw [exec_nDecAdvanceSym hdec, symAdvance_zero (s := s.lock) hboot hpull]
    rfl
  case unowned =>
    intro hf h
    have hout : ¬ (start.toNat ≤ off ∧ off < start.toNat + freq.toNat ∧ start.toNat + freq.toNat ≤ 32768) := by omega
    rw [exec_nDecAdvanceSym hdec, symAdvance_unowned (s := s.lock) hboot hpull hf hout]
    rfl
  case owned =>
    rw [exec_nDecAdvanceSym hdec, symAdvance_owned (s := s.lock) hboot hpull hf hlo hhi hle]
    refine ⟨fun hn => ?last, fun hn => ?within⟩
    case last => rw [State.lock_ans2, Ans2.advance_last _ _ hn]; rfl
    case within => rw [State.lock_ans2, Ans2.advance_within _ _ hn, hpull]; rfl

end Sys2Proof.Machine
end

section
/-! SUPPORT. The batch encoder (R172 to R174): coding the buffered symbols leaves in the two states and in `OUT` what
`symWalk` says. -/

namespace Sys2Proof.Machine

/-! ### The walk over the buffered symbols -/

/-- An interval of the scale that is not empty (R171). -/
def SymCell.legal (c : SymCell) : Prop := c.freq ≠ 0 ∧ c.start.toNat + c.freq.toNat ≤ 32768

theorem SymCell.legal.freq_pos {c : SymCell} (h : c.legal) : 0 < c.freq.toNat :=
  Nat.pos_of_ne_zero fun h0 => h.1 (BitVec.eq_of_toNat_eq h0)

/-- The state of a stream after the symbol `c` (R172). -/
def symNext (c : SymCell) (x : Nat) : Nat := symUpdate c.start.toNat c.freq.toNat (symKept c.freq.toNat x)

/-- What coding with the frequency `freq` pushes: one word or nothing (R172). -/
def symWord (freq x : Nat) : List Byte := if rescaleLim freq ≤ x then leBytes 4 (x % 2 ^ 32) else []

theorem symWord_below {freq x : Nat} (h : x < rescaleLim freq) : symWord freq x = [] := if_neg (Nat.not_le.mpr h)

theorem symWord_pushes {freq x : Nat} (h : rescaleLim freq ≤ x) : symWord freq x = leBytes 4 (x % 2 ^ 32) := if_pos h

theorem length_symWord (freq x : Nat) :
    (symWord freq x).length % 4 = 0 ∧ (symWord freq x).length ≤ 4 := by
  unfold symWord
  split <;> simp

/-- Coding a symbol takes the state up by at most 15 binary places, and down by 32 where it pushes a word. -/
theorem size_symNext {c : SymCell} (hc : c.legal) (x : Nat) :
    Nat.size (symNext c x) + 8 * (symWord c.freq.toNat x).length ≤ Nat.size x + 15 := by
  have hpos := hc.freq_pos
  have hup (y : Nat) : Nat.size (symUpdate c.start.toNat c.freq.toNat y) ≤ Nat.size y + 15 := by
    rw [Nat.size_le, Nat.pow_add]
    exact symUpdate_lt hpos hc.2 ((Nat.lt_size_self y).trans_le (Nat.le_mul_of_pos_right _ hpos))
  rcases Nat.lt_or_ge x (rescaleLim c.freq.toNat) with hx | hx
  · rw [symNext, symKept_below hx, symWord_below hx]
    exact hup x
  · have hbig : 2 ^ 32 ≤ x := by
      have : 2 ^ 48 * c.freq.toNat ≤ x := hx
      omega
    have hsize : 32 < Nat.size x := Nat.lt_size.mpr hbig
    have hdown : Nat.size (x / 2 ^ 32) ≤ Nat.size x - 32 := by
      rw [Nat.size_le]
      refine Nat.div_lt_of_lt_mul ?_
      rw [← Nat.pow_add, Nat.add_sub_cancel' hsize.le]
      exact Nat.lt_size_self x
    have := hup (x / 2 ^ 32)
    rw [symNext, symKept_pushes hx, symWord_pushes hx, length_leBytes]
    omega

/-- One symbol more in the walk, into stream `k`: the two states and the words in `OUT` (R172). -/
def symStep (k : Bool) (c : SymCell) (w : Nat × Nat × List Byte) : Nat × Nat × List Byte :=
  match k with
  | false => (symNext c w.1, w.2.1, symWord c.freq.toNat w.1 ++ w.2.2)
  | true => (w.1, symNext c w.2.1, symWord c.freq.toNat w.2.1 ++ w.2.2)

theorem symWalk_succ (cell : Nat → SymCell) (n d : Nat) :
    symWalk cell n (d + 1) =
      symStep (decide ((n - 1 - d) % 2 = 1)) (cell (n - 1 - d)) (symWalk cell n d) := by
  have hpush (freq x : Nat) (words : List Byte) :
      (if 2 ^ 48 * freq ≤ x then leBytes 4 (x % 2 ^ 32) ++ words else words) = symWord freq x ++ words := by
    unfold symWord rescaleLim
    split <;> rfl
  rcases Nat.mod_two_eq_zero_or_one (n - 1 - d) with h | h <;> simp only [symWalk, h, hpush] <;> rfl

/-- After `d` symbols: both states are normalized, whole words are out, and each 4 bytes out took a state 32 binary
places down while each symbol took one at most 15 up. -/
structure SymWalkBounded (d : Nat) (w : Nat × Nat × List Byte) : Prop where
  normalA : normalized w.1
  normalB : normalized w.2.1
  words : w.2.2.length % 4 = 0
  places : Nat.size w.1 + Nat.size w.2.1 + 8 * w.2.2.length ≤ 64 + 15 * d

theorem symStep_bounded {k : Bool} {c : SymCell} {d : Nat} {w : Nat × Nat × List Byte} (hc : c.legal)
    (h : SymWalkBounded d w) : SymWalkBounded (d + 1) (symStep k c w) := by
  obtain ⟨hA, hB, hwords, hplaces⟩ := h
  have next {x : Nat} (hx : normalized x) : normalized (symNext c x) := normalized_symStep hc.freq_pos hc.2 hx
  cases k
  · have hsize := size_symNext hc w.1
    have hlen := length_symWord c.freq.toNat w.1
    exact ⟨next hA, hB, by simp only [symStep, List.length_append]; omega,
      by simp only [symStep, List.length_append]; omega⟩
  · have hsize := size_symNext hc w.2.1
    have hlen := length_symWord c.freq.toNat w.2.1
    exact ⟨hA, next hB, by simp only [symStep, List.length_append]; omega,
      by simp only [symStep, List.length_append]; omega⟩

theorem symWalk_bounded {cell : Nat → SymCell} {n : Nat} (hc : ∀ i < n, (cell i).legal) {d : Nat} (hd : d ≤ n) :
    SymWalkBounded d (symWalk cell n d) := by
  induction d with
  | zero =>
    have hlt : 2147483648 < 2 ^ 63 := by decide
    have hsize : Nat.size 2147483648 ≤ 32 := Nat.size_le.mpr (by decide)
    have hplaces : Nat.size 2147483648 + Nat.size 2147483648 + 0 ≤ 64 := Nat.add_le_add hsize hsize
    exact ⟨⟨Nat.le_refl _, hlt⟩, ⟨Nat.le_refl _, hlt⟩, rfl, hplaces⟩
  | succ d ih =>
    rw [symWalk_succ]
    exact symStep_bounded (hc _ (by omega)) (ih (Nat.le_of_succ_le hd))

/-- The words of a batch and its two states fit into `OUT`. -/
theorem SymWalkBounded.room {d : Nat} {w : Nat × Nat × List Byte} (h : SymWalkBounded d w) (hd : d ≤ 16384) :
    w.2.2.length + 16 ≤ 65536 := by
  have := h.places
  omega

/-! ### Coding the buffered symbols -/

theorem State.push_output_nil (s : State) : s.push .output [] = s := by
  have hlo : BitVec.ofNat 17 s.queues.outLo.toNat = s.queues.outLo := by simp
  simp [State.push, Queues.push, Queues.pushCount, Memory.writeList, hlo]

theorem reversePutSym_eq (k : Bool) (c : SymCell) (s : State) :
    reversePutSym k c.start.toNat c.freq.toNat s =
      { s.push .output (symWord c.freq.toNat (s.ans2.stream k).toNat) with
        ans2 := s.ans2.setStream k (BitVec.ofNat 64 (symNext c (s.ans2.stream k).toNat)) } := by
  rcases Nat.lt_or_ge (s.ans2.stream k).toNat (rescaleLim c.freq.toNat) with hx | hx
  · rw [symWord_below hx, State.push_output_nil, symNext, symKept_below hx]
    exact if_neg (Nat.not_le.mpr hx)
  · rw [symWord_pushes hx, symNext, symKept_pushes hx]
    exact if_pos hx

/-- `u` is `s` after a walk with nothing in `OUT` has come to `w`: the states are those of `w`, the words of `w` are in
`OUT`, and nothing else has changed. -/
structure State.SymCoded (s : State) (w : Nat × Nat × List Byte) (u : State) : Prop where
  frame : u = { s with
    ans2 := { s.ans2 with stateA := u.ans2.stateA, stateB := u.ans2.stateB }
    queues := { s.queues with outMem := u.queues.outMem, outLo := u.queues.outLo } }
  stateA : u.ans2.stateA.toNat = w.1
  stateB : u.ans2.stateB.toNat = w.2.1
  room : u.queues.outLo.toNat + w.2.2.length = 65536
  out : u.queues.popBytes .output 65536 = w.2.2
  canonical : Memory.wf 0 u.queues.outMem = true

theorem State.symCoded_startStates {s : State} (ho : s.queues.outLo.toNat = 65536)
    (hm : Memory.wf 0 s.queues.outMem = true) :
    s.SymCoded (2147483648, 2147483648, []) { s with ans2 := s.ans2.startStates } where
  frame := rfl
  stateA := rfl
  stateB := rfl
  room := ho
  out := by
    have hnone : s.queues.popCount .output 65536 = 0 := by
      simp only [Queues.popCount, Queues.popAvail, Config.outSize]
      omega
    show s.queues.popBytes .output 65536 = []
    rw [Queues.popBytes, hnone]
    rfl
  canonical := hm

section
variable {s u : State} {w : Nat × Nat × List Byte}

/-- Bytes pushed with room for them come out before the words that were there. -/
theorem State.SymCoded.push (h : s.SymCoded w u) {bs : List Byte} (hroom : bs.length + w.2.2.length ≤ 65536) :
    s.SymCoded (w.1, w.2.1, bs ++ w.2.2) (u.push .output bs) := by
  have hr := h.room
  have hlo : u.queues.outLo.toNat ≤ 65536 := by omega
  have hfit : bs.length ≤ u.queues.outLo.toNat := by omega
  have houtLo := Queues.push_output_outLo hlo hfit
  refine ⟨?frame, h.stateA, h.stateB, ?room, ?out, Memory.wf_writeList _ _ h.canonical⟩
  case frame =>
    rw [h.frame]
    rfl
  case room =>
    simp only [State.push_queues, List.length_append, houtLo]
    omega
  case out =>
    rw [State.push_queues, Queues.popBytes_push_output h.canonical hlo hfit, h.out]

theorem State.SymCoded.setStateA (h : s.SymCoded w u) {x : BitVec 64} {v : Nat} (hx : x.toNat = v) :
    s.SymCoded (v, w.2) { u with ans2 := { u.ans2 with stateA := x } } where
  frame := by rw [h.frame]
  stateA := hx
  stateB := h.stateB
  room := h.room
  out := h.out
  canonical := h.canonical

theorem State.SymCoded.setStateB (h : s.SymCoded w u) {x : BitVec 64} {v : Nat} (hx : x.toNat = v) :
    s.SymCoded (w.1, v, w.2.2) { u with ans2 := { u.ans2 with stateB := x } } where
  frame := by rw [h.frame]
  stateA := h.stateA
  stateB := hx
  room := h.room
  out := h.out
  canonical := h.canonical

/-- One symbol more: the encoding step does what the step of the walk says. -/
theorem State.SymCoded.step (h : s.SymCoded w u) (k : Bool) {c : SymCell} (hc : c.legal) (hA : normalized w.1)
    (hB : normalized w.2.1) (hroom : w.2.2.length + 4 ≤ 65536) :
    s.SymCoded (symStep k c w) (reversePutSym k c.start.toNat c.freq.toNat u) := by
  have holds {x : Nat} (hx : normalized x) : (BitVec.ofNat 64 (symNext c x)).toNat = symNext c x := by
    rw [BitVec.toNat_ofNat]
    exact Nat.mod_eq_of_lt ((normalized_symStep hc.freq_pos hc.2 hx).2.trans (by decide))
  have fits (x : Nat) : (symWord c.freq.toNat x).length + w.2.2.length ≤ 65536 := by
    have := (length_symWord c.freq.toNat x).2
    omega
  rw [reversePutSym_eq]
  cases k
  · rw [show (u.ans2.stream false).toNat = w.1 from h.stateA]
    exact (h.push (fits w.1)).setStateA (holds hA)
  · rw [show (u.ans2.stream true).toNat = w.2.1 from h.stateB]
    exact (h.push (fits w.2.1)).setStateB (holds hB)

end

/-- The walk over the symbols buffered in `a`, `d` of them coded (R173). -/
def Ans2.walk (a : Ans2) (d : Nat) : Nat × Nat × List Byte :=
  symWalk (fun i => Memory.read SymCell.zero a.symbuf i) a.symCount.toNat d

section
variable {s : State} (hc : ∀ i < s.ans2.symCount.toNat, (Memory.read SymCell.zero s.ans2.symbuf i).legal)
include hc

theorem Ans2.walk_bounded {d : Nat} (hd : d ≤ s.ans2.symCount.toNat) : SymWalkBounded d (s.ans2.walk d) :=
  symWalk_bounded hc hd

variable (hn : s.ans2.symCount.toNat ≤ 16384)
include hn

/-- The loop of R173 follows the walk, from wherever in it to its end. -/
theorem flushSyms_coded {k d : Nat} {u : State} (hd : k + d = s.ans2.symCount.toNat)
    (h : s.SymCoded (s.ans2.walk d) u) :
    s.SymCoded (s.ans2.walk s.ans2.symCount.toNat) (flushSyms k u) := by
  induction k generalizing d u with
  | zero =>
    rw [Nat.zero_add] at hd
    exact hd ▸ h
  | succ k ih =>
    have hbuf : u.ans2.symbuf = s.ans2.symbuf := by rw [h.frame]
    have hbound := Ans2.walk_bounded hc (d := d) (by omega)
    have hnext : s.ans2.walk (d + 1) =
        symStep (decide (k % 2 = 1)) (Memory.read SymCell.zero s.ans2.symbuf k) (s.ans2.walk d) := by
      rw [Ans2.walk, symWalk_succ, show s.ans2.symCount.toNat - 1 - d = k by omega]
      rfl
    have hstep := h.step (decide (k % 2 = 1)) (hc k (by omega)) hbound.normalA hbound.normalB
      (by have := hbound.room (by omega); omega)
    rw [← hnext] at hstep
    rw [flushSyms, hbuf]
    exact ih (by omega) hstep

/-- A flush that runs leaves the coded batch in `OUT`: the states, and then the words (R173). -/
theorem batchFlushed_coded (ho : s.queues.outLo.toNat = 65536) (hm : Memory.wf 0 s.queues.outMem = true) :
    ∃ u, s.batchFlushed = { u with ans2 := { u.ans2 with symCount := 0 } } ∧
      s.SymCoded ((s.ans2.walk s.ans2.symCount.toNat).1, (s.ans2.walk s.ans2.symCount.toNat).2.1,
        leBytes 8 u.ans2.stateA.toNat ++ (leBytes 8 u.ans2.stateB.toNat ++
          (s.ans2.walk s.ans2.symCount.toNat).2.2)) u := by
  let u := flushSyms s.ans2.symCount.toNat { s with ans2 := s.ans2.startStates }
  have hcoded : s.SymCoded _ u := flushSyms_coded hc hn (Nat.add_zero _) (State.symCoded_startStates ho hm)
  have hroom := (Ans2.walk_bounded hc (Nat.le_refl _)).room hn
  have hB := hcoded.push (bs := leBytes 8 u.ans2.stateB.toNat) (by rw [length_leBytes]; omega)
  have hA := hB.push (bs := leBytes 8 u.ans2.stateA.toNat)
    (by rw [length_leBytes, List.length_append, length_leBytes]; omega)
  exact ⟨_, rfl, hA⟩

end

/-- Settles O23: the batch that the flush leaves, with its words in the bounds of the walk. -/
theorem symbolFlushResult : Obligations.SymbolFlushResult := by
  intro s henc hcan
  obtain ⟨⟨-, hout⟩, -⟩ := s.memoriesCanonical_iff.mp hcan
  refine ⟨?empty, ?waits, ?flushes⟩
  case empty =>
    intro h
    rw [exec_nFlushChunk henc, symFlush_empty (s := s.lock) h]
    rfl
  case waits =>
    intro h ho
    rw [exec_nFlushChunk henc, symFlush_waits (s := s.lock) h ho]
    rfl
  case flushes =>
    intro hcount hn ho hc n walk words
    have hbound : SymWalkBounded n walk := Ans2.walk_bounded hc (Nat.le_refl _)
    obtain ⟨u, hflushed, hu⟩ := batchFlushed_coded (s := s.lock) hc hn ho hout
    have hA : u.ans2.stateA.toNat = walk.1 := hu.stateA
    have hB : u.ans2.stateB.toNat = walk.2.1 := hu.stateB
    obtain ⟨hAlo, hAhi⟩ := hA ▸ hbound.normalA
    obtain ⟨hBlo, hBhi⟩ := hB ▸ hbound.normalB
    have hrun := exec_nFlushChunk henc
    rw [symFlush_runs (s := s.lock) hcount ho, hflushed] at hrun
    refine ⟨_, hrun, ?frame, hA, hB, hAlo, hAhi, hBlo, hBhi, hbound.words,
      Nat.le_of_add_le_add_right (hbound.room hn), hu.out.trans (List.append_assoc _ _ _).symm⟩
    case frame =>
      rw [hu.frame]
      rfl

end Sys2Proof.Machine
end

section
/-! SUPPORT. The bytes a symbol decoder takes (R178, R179): `IN` under several pops and under a push between them, what
the bytes taken make of the registers, and that `N_DEC_FILL` may be interrupted anywhere. -/

namespace Sys2Proof.Machine

/-! ### The ring between pops -/

/-- A write leaves every other address as it was, in a memory of any form. -/
theorem Memory.read_write_of_ne {α : Type} [DecidableEq α] {d : α} {a b : Nat} (hab : b ≠ a) (m : Memory α) (v : α) :
    Memory.read d (Memory.write d m a v) b = Memory.read d m b := by
  induction m with
  | nil =>
    by_cases hv : v = d <;> simp [Memory.write, Memory.read, hv, hab]
  | cons p m ih =>
    obtain ⟨k, x⟩ := p
    unfold Memory.write
    split
    · split <;> simp [Memory.read, hab]
    · split
      · have hbk : b ≠ k := by omega
        split <;> simp [Memory.read, hab, hbk]
      · simp [Memory.read, ih]

/-- What `read_ringWrite_of_outside` says, of a ring whose memory need not be canonical. -/
theorem read_ringWrite_of_ne {a i : Nat} {bs : List Byte} (ha : ∀ k < bs.length, a ≠ (i + k) % 65537)
    (m : Memory Byte) : Memory.read 0 (ringWrite m i bs) a = Memory.read 0 m a := by
  induction bs generalizing m i with
  | nil => rfl
  | cons b bs ih =>
    have htail : ∀ k < bs.length, a ≠ (i + 1 + k) % 65537 := fun k hk => by
      rw [Nat.add_assoc, Nat.add_comm 1]
      exact ha (k + 1) (Nat.succ_lt_succ hk)
    have hhead : a ≠ i % 65537 := ha 0 (Nat.succ_pos _)
    rw [ringWrite, ih htail, Memory.read_write_of_ne hhead]

section
variable {qs : Queues}

theorem Queues.pop_inRd (n : Nat) :
    (qs.pop .input n).inRd.toNat = (qs.inRd.toNat + qs.popCount .input n) % 65537 := by
  simp only [Queues.pop, BitVec.toNat_ofNat, Config.inSlots]
  omega

theorem Queues.eq_of_inRd {qs' : Queues} (h : qs'.inRd.toNat = qs.inRd.toNat)
    (hrest : qs' = { qs with inRd := qs'.inRd }) : qs' = qs := by
  rw [hrest, BitVec.eq_of_toNat_eq h]

variable (hrd : qs.inRd.toNat ≤ 65536)
include hrd

theorem Queues.pop_zero : qs.pop .input 0 = qs := by
  refine Queues.eq_of_inRd ?_ rfl
  rw [Queues.pop_inRd, Queues.popCount, Nat.zero_min]
  omega

/-- What is left in `IN` after a pop. -/
theorem Queues.popAvail_pop (n : Nat) : (qs.pop .input n).popAvail .input = qs.popAvail .input - n := by
  have hpop := Queues.pop_inRd (qs := qs) n
  have hwr : (qs.pop .input n).inWr = qs.inWr := rfl
  simp only [Queues.popCount, Queues.popAvail, hpop, hwr, Config.inSlots] at hpop ⊢
  omega

/-- Two pops are one of both lengths. -/
theorem Queues.pop_pop (n m : Nat) : (qs.pop .input n).pop .input m = qs.pop .input (n + m) := by
  refine Queues.eq_of_inRd ?_ rfl
  have hleft := Queues.popAvail_pop hrd n
  rw [Queues.pop_inRd, Queues.pop_inRd, Queues.pop_inRd]
  simp only [Queues.popCount, hleft]
  omega

/-- Two pops give the bytes of one of both lengths. -/
theorem Queues.popBytes_add (n m : Nat) :
    qs.popBytes .input (n + m) = qs.popBytes .input n ++ (qs.pop .input n).popBytes .input m := by
  have hcount : qs.popCount .input (n + m) = qs.popCount .input n + (qs.pop .input n).popCount .input m := by
    simp only [Queues.popCount, Queues.popAvail_pop hrd n]
    omega
  have hstart : (qs.inRd.toNat + qs.popCount .input n) % 65537 = (qs.pop .input n).inRd.toNat % 65537 := by
    rw [Queues.pop_inRd, Nat.mod_mod]
  simp only [Queues.popBytes, hcount, ringRead_add]
  rw [ringRead_congr_mod hstart]
  rfl

variable (hwr : qs.inWr.toNat ≤ 65536) {src : List Byte} (hsrc : src.length ≤ qs.pushAvail .input)
include hwr hsrc

/-- A block with room for it is all there to be popped. -/
theorem Queues.popAvail_push_input : (qs.push .input src).popAvail .input = qs.popAvail .input + src.length := by
  have hcount : qs.pushCount .input src = src.length := Nat.min_eq_left hsrc
  have hinWr := qs.push_inWr src
  have hinRd : (qs.push .input src).inRd = qs.inRd := rfl
  simp only [Queues.popAvail, Queues.pushAvail, Config.inSlots, hinWr, hinRd, hcount] at hsrc ⊢
  omega

/-- A block with room for it does not touch the bytes before it. -/
theorem Queues.popBytes_push_input {n : Nat} (hn : n ≤ qs.popAvail .input) :
    (qs.push .input src).popBytes .input n = qs.popBytes .input n := by
  have havail := Queues.popAvail_push_input hrd hwr hsrc
  have hcount : (qs.push .input src).popCount .input n = n := Nat.min_eq_left (by omega)
  have hcount' : qs.popCount .input n = n := Nat.min_eq_left hn
  simp only [Queues.popBytes, hcount, hcount', ringRead_eq_map]
  refine List.map_congr_left fun k hk => read_ringWrite_of_ne (fun j hj => ?_) qs.inMem
  have hkn : k < n := List.mem_range.mp hk
  have hjn := (List.length_take_le' _ src).trans_lt' hj
  simp only [Queues.popAvail, Queues.pushAvail, Config.inSlots] at hn hsrc
  show (qs.inRd.toNat + k) % 65537 ≠ (qs.inWr.toNat + j) % 65537
  omega

/-- After a pop there is still room for the block. -/
theorem Queues.pushCount_pop (n : Nat) : (qs.pop .input n).pushCount .input src = qs.pushCount .input src := by
  have hpop := Queues.pop_inRd (qs := qs) n
  have hinWr : (qs.pop .input n).inWr = qs.inWr := rfl
  simp only [Queues.pushCount, Queues.pushAvail, Queues.popAvail, Queues.popCount, Config.inSlots, hinWr, hpop]
    at hsrc ⊢
  omega

/-- A block with room for it may be pushed before or after bytes that are there are popped. -/
theorem Queues.pop_push_input {n : Nat} (hn : n ≤ qs.popAvail .input) :
    (qs.push .input src).pop .input n = (qs.pop .input n).push .input src := by
  have havail := Queues.popAvail_push_input hrd hwr hsrc
  have hcount : (qs.push .input src).popCount .input n = qs.popCount .input n := by
    simp only [Queues.popCount, havail]
    omega
  have hroom := Queues.pushCount_pop hrd hwr hsrc n
  simp only [Queues.pop, hcount] at hroom ⊢
  simp only [Queues.push, hroom]

end

/-! ### Bytes as parts of a word -/

theorem fromLE_take (bs : List Byte) (n : Nat) : fromLE (bs.take n) = fromLE bs % 256 ^ n := by
  induction bs generalizing n with
  | nil => simp [fromLE]
  | cons b bs ih =>
    cases n with
    | zero => simp [fromLE, Nat.mod_one]
    | succ n =>
      have hb : b.toNat < 256 := b.isLt
      have hrest : (b.toNat + 256 * fromLE bs) / 256 = fromLE bs := by omega
      rw [List.take_succ_cons, fromLE, fromLE, ih, Nat.pow_succ, Nat.mul_comm (256 ^ n), Nat.mod_mul, hrest]
      omega

theorem fromLE_drop (bs : List Byte) (n : Nat) : fromLE (bs.drop n) = fromLE bs / 256 ^ n := by
  induction bs generalizing n with
  | nil => simp [fromLE]
  | cons b bs ih =>
    cases n with
    | zero => simp
    | succ n =>
      have hb : b.toNat < 256 := b.isLt
      rw [List.drop_succ_cons, fromLE, ih, Nat.pow_succ, Nat.mul_comm (256 ^ n), ← Nat.div_div_eq_div_mul]
      congr 1
      omega

/-- The bytes `bs` in a word from byte `i` on, low byte first. -/
def bytesAt (w i : Nat) (bs : List Byte) : BitVec w := BitVec.ofNat w (fromLE bs * 2 ^ (8 * i))

@[simp] theorem bytesAt_nil (w i : Nat) : bytesAt w i [] = 0 := by simp [bytesAt, fromLE]

theorem bytesAt_singleton (w i : Nat) (b : Byte) : bytesAt w i [b] = BitVec.ofNat w (b.toNat * 2 ^ (8 * i)) := by
  simp [bytesAt, fromLE]

theorem bytesAt_cons (w i : Nat) (b : Byte) (bs : List Byte) :
    bytesAt w i (b :: bs) = bytesAt w i [b] ||| bytesAt w (i + 1) bs := by
  have hlt : b.toNat * 2 ^ (8 * i) < 2 ^ (8 * (i + 1)) := by
    rw [show 8 * (i + 1) = 8 + 8 * i by omega, Nat.pow_add]
    exact Nat.mul_lt_mul_of_pos_right b.isLt (Nat.two_pow_pos _)
  have hsum : fromLE (b :: bs) * 2 ^ (8 * i) = 2 ^ (8 * (i + 1)) * fromLE bs + b.toNat * 2 ^ (8 * i) := by
    rw [fromLE, show 8 * (i + 1) = 8 + 8 * i by omega, Nat.pow_add]
    ring
  rw [bytesAt_singleton, bytesAt, hsum, Nat.two_pow_add_eq_or_of_lt hlt, BitVec.ofNat_or, BitVec.or_comm, bytesAt,
    Nat.mul_comm (fromLE bs)]

theorem toNat_bytesAt_singleton {w i : Nat} (h : 8 * i + 8 ≤ w) (b : Byte) :
    (bytesAt w i [b]).toNat = b.toNat * 2 ^ (8 * i) := by
  have hlt : b.toNat * 2 ^ (8 * i) < 2 ^ w :=
    (Nat.mul_lt_mul_of_pos_right b.isLt (Nat.two_pow_pos _)).trans_le
      (by rw [← Nat.pow_add]; exact Nat.pow_le_pow_right (by decide) (by omega))
  rw [bytesAt_singleton, BitVec.toNat_ofNat, Nat.mod_eq_of_lt hlt]

/-- A byte of the low half of a block. -/
theorem bytesAt_low {i : Nat} (hi : i < 8) (b : Byte) : bytesAt 128 i [b] = 0#64 ++ bytesAt 64 i [b] := by
  apply BitVec.eq_of_toNat_eq
  rw [BitVec.toNat_append, toNat_bytesAt_singleton (by omega), toNat_bytesAt_singleton (by omega)]
  simp

/-- A byte of the high half of a block. -/
theorem bytesAt_high {i : Nat} (hi : 8 ≤ i) (hi' : i < 16) (b : Byte) :
    bytesAt 128 i [b] = bytesAt 64 (i - 8) [b] ++ 0#64 := by
  apply BitVec.eq_of_toNat_eq
  rw [BitVec.toNat_append, toNat_bytesAt_singleton (by omega), toNat_bytesAt_singleton (by omega), Nat.shiftLeft_eq,
    Nat.mul_assoc, ← Nat.pow_add, show 8 * (i - 8) + 64 = 8 * i by omega]
  simp

/-! ### The registers after a byte -/

/-- Both states as one block of 16 bytes, low byte first (R178). -/
def Ans2.block (a : Ans2) : BitVec 128 := a.stateB ++ a.stateA

/-- What is left to do when the state block is `block` and `left` bytes of it are still wanted: the bytes `pulls` go into
the pull (R178). -/
def Ans2.pulling (block : BitVec 128) (left : BitVec 5) (pulls : List Byte) (a : Ans2) : Ans2 :=
  let acc := a.pullAcc ||| bytesAt 32 (4 - a.pullNeed.toNat) pulls
  let high : BitVec 64 := block.extractLsb' 64 64
  let lands := decide (a.pullNeed.toNat ≠ 0 ∧ pulls.length = a.pullNeed.toNat)
  { a with
    stateA := block.extractLsb' 0 64
    stateB := if lands then BitVec.ofNat 64 (high.toNat * 2 ^ 32 + acc.toNat) else high
    bootNeed := left
    pullNeed := BitVec.ofNat 3 (a.pullNeed.toNat - pulls.length)
    pullAcc := if lands then 0 else acc }

theorem Ans2.taking_eq (bs : List Byte) (a : Ans2) :
    a.taking bs =
      a.pulling (a.block ||| bytesAt 128 (16 - a.bootNeed.toNat) (bs.take a.bootNeed.toNat))
        (BitVec.ofNat 5 (a.bootNeed.toNat - (bs.take a.bootNeed.toNat).length)) (bs.drop a.bootNeed.toNat) := rfl

section
variable {a : Ans2} (b : Byte)

/-- With the state block whole every byte goes into the pull. -/
theorem Ans2.taking_of_booted (h : a.bootNeed = 0) (bs : List Byte) : a.taking bs = a.pulling a.block 0 bs := by
  rw [Ans2.taking_eq, h]
  simp

theorem Ans2.bootByte_bootNeed : (a.bootByte b).bootNeed = a.bootNeed - 1 := by
  unfold bootByte
  dsimp only
  split <;> rfl

theorem Ans2.bootByte_pullNeed : (a.bootByte b).pullNeed = a.pullNeed := by
  unfold bootByte
  dsimp only
  split <;> rfl

theorem Ans2.bootByte_pulling (block : BitVec 128) (left : BitVec 5) (pulls : List Byte) :
    (a.bootByte b).pulling block left pulls = a.pulling block left pulls := by
  unfold bootByte
  dsimp only
  split <;> rfl

theorem Ans2.bootByte_block (hneed : a.bootNeed ≠ 0) (hboot : a.bootNeed.toNat ≤ 16) :
    (a.bootByte b).block = a.block ||| bytesAt 128 (16 - a.bootNeed.toNat) [b] := by
  have hpos : a.bootNeed.toNat ≠ 0 := fun h0 => hneed (BitVec.eq_of_toNat_eq h0)
  unfold bootByte
  dsimp only
  split
  · rw [bytesAt_low ‹_›, Ans2.block, Ans2.block, BitVec.or_append, BitVec.or_zero, bytesAt_singleton]
  · rw [bytesAt_high (by omega) (by omega), Ans2.block, Ans2.block, BitVec.or_append, BitVec.or_zero, bytesAt_singleton]

/-- A byte of a pull that is not its last. -/
theorem Ans2.pullByte_of_ne_one (h : a.pullNeed ≠ 1) :
    a.pullByte b =
      { a with
        pullAcc := a.pullAcc ||| bytesAt 32 (4 - a.pullNeed.toNat) [b]
        pullNeed := a.pullNeed - 1 } := by
  rw [bytesAt_singleton]
  exact if_neg h

theorem Ans2.pullByte_bootNeed : (a.pullByte b).bootNeed = a.bootNeed := by
  unfold pullByte
  dsimp only
  split <;> rfl

theorem Ans2.pullByte_pullNeed : (a.pullByte b).pullNeed = a.pullNeed - 1 := by
  unfold pullByte
  dsimp only
  split
  · rw [‹a.pullNeed = 1›]
    rfl
  · rfl

end

section
variable {a : Ans2}

theorem Ans2.block_low (a : Ans2) : a.block.extractLsb' 0 64 = a.stateA := BitVec.extractLsb'_append_eq_right

theorem Ans2.block_high (a : Ans2) : a.block.extractLsb' 64 64 = a.stateB := BitVec.extractLsb'_append_eq_left

theorem Ans2.taking_nil (a : Ans2) : a.taking [] = a := by
  have hlands : ¬ (a.pullNeed.toNat ≠ 0 ∧ 0 = a.pullNeed.toNat) := by omega
  simp [Ans2.taking_eq, Ans2.pulling, Ans2.block_low, Ans2.block_high, hlands]

theorem Ans2.taking_bootByte (hneed : a.bootNeed ≠ 0) (hboot : a.bootNeed.toNat ≤ 16) (b : Byte) (bs : List Byte) :
    a.taking (b :: bs) = (a.bootByte b).taking bs := by
  have hpos : a.bootNeed.toNat ≠ 0 := fun h0 => hneed (BitVec.eq_of_toNat_eq h0)
  obtain ⟨n, hn⟩ := Nat.exists_eq_add_one_of_ne_zero hpos
  have hn' : (a.bootNeed - 1).toNat = n := by bv_omega
  have hplace : 16 - (n + 1) + 1 = 16 - n := by omega
  rw [Ans2.taking_eq, Ans2.taking_eq, Ans2.bootByte_pulling, Ans2.bootByte_block b hneed hboot, Ans2.bootByte_bootNeed,
    hn', hn, List.take_succ_cons, List.drop_succ_cons, bytesAt_cons, hplace, BitVec.or_assoc, List.length_cons,
    Nat.add_sub_add_right]

theorem Ans2.taking_pullByte (hboot : a.bootNeed = 0) (hpull : a.pullNeed.toNat ≤ 4) {bs : List Byte}
    (hlen : bs.length < a.pullNeed.toNat) (b : Byte) : a.taking (b :: bs) = (a.pullByte b).taking bs := by
  have hrest : (a.pullByte b).bootNeed = 0 := (Ans2.pullByte_bootNeed b).trans hboot
  rw [Ans2.taking_of_booted hboot]
  by_cases hlast : a.pullNeed = 1
  · obtain rfl : bs = [] := List.length_eq_zero_iff.mp (by rw [hlast] at hlen; exact Nat.lt_one_iff.mp hlen)
    rw [Ans2.taking_nil]
    simp [Ans2.pulling, Ans2.pullByte, hlast, Ans2.block_low, Ans2.block_high, bytesAt_singleton, hboot]
  · have hmore : 1 < a.pullNeed.toNat := by bv_omega
    have hneed : (a.pullNeed - 1).toNat = a.pullNeed.toNat - 1 := by bv_omega
    have hplace : 4 - a.pullNeed.toNat + 1 = 4 - (a.pullNeed.toNat - 1) := by omega
    have hlands : (a.pullNeed.toNat ≠ 0 ∧ bs.length + 1 = a.pullNeed.toNat) ↔
        (a.pullNeed.toNat - 1 ≠ 0 ∧ bs.length = a.pullNeed.toNat - 1) := by omega
    have hleft : a.pullNeed.toNat - (bs.length + 1) = a.pullNeed.toNat - 1 - bs.length := by omega
    rw [Ans2.taking_of_booted hrest, Ans2.pullByte_of_ne_one b hlast]
    simp only [Ans2.pulling, Ans2.block, hneed, List.length_cons, hlands, hleft, bytesAt_cons _ _ b bs, hplace,
      BitVec.or_assoc]

theorem Ans2.taking_cons (hboot : a.bootNeed.toNat ≤ 16) (hpull : a.pullNeed.toNat ≤ 4) {bs : List Byte}
    (hlen : bs.length < a.bytesWanted) (b : Byte) : a.taking (b :: bs) = (a.takeByte b).taking bs := by
  unfold takeByte
  split
  · exact Ans2.taking_bootByte ‹_› hboot b bs
  · have hzero : a.bootNeed = 0 := not_not.mp ‹_›
    refine Ans2.taking_pullByte hzero hpull ?_ b
    simpa [Ans2.bytesWanted, hzero] using hlen

theorem Ans2.takeByte_needs (hboot : a.bootNeed.toNat ≤ 16) (hpull : a.pullNeed.toNat ≤ 4) (hwant : a.bytesWanted ≠ 0)
    (b : Byte) : (a.takeByte b).bootNeed.toNat ≤ 16 ∧ (a.takeByte b).pullNeed.toNat ≤ 4 := by
  unfold bytesWanted at hwant
  unfold takeByte
  split
  · rw [Ans2.bootByte_bootNeed, Ans2.bootByte_pullNeed]
    bv_omega
  · rw [Ans2.pullByte_bootNeed, Ans2.pullByte_pullNeed]
    bv_omega

end

/-- Taking bytes one after the other (R178). -/
def Ans2.takeBytes (bs : List Byte) (a : Ans2) : Ans2 := bs.foldl (fun a b => a.takeByte b) a

@[simp] theorem Ans2.takeBytes_nil (a : Ans2) : a.takeBytes [] = a := rfl

@[simp] theorem Ans2.takeBytes_cons (b : Byte) (bs : List Byte) (a : Ans2) :
    a.takeBytes (b :: bs) = (a.takeByte b).takeBytes bs := rfl

theorem Ans2.takeBytes_append (bs cs : List Byte) (a : Ans2) :
    a.takeBytes (bs ++ cs) = (a.takeBytes bs).takeBytes cs := List.foldl_append

theorem Ans2.takeBytes_eq_taking {bs : List Byte} {a : Ans2} (hboot : a.bootNeed.toNat ≤ 16)
    (hpull : a.pullNeed.toNat ≤ 4) (hlen : bs.length ≤ a.bytesWanted) : a.takeBytes bs = a.taking bs := by
  induction bs generalizing a with
  | nil => exact a.taking_nil.symm
  | cons b bs ih =>
    rw [List.length_cons] at hlen
    have hwant : a.bytesWanted ≠ 0 := by omega
    have hnext := Ans2.bytesWanted_takeByte b hwant
    obtain ⟨hboot', hpull'⟩ := Ans2.takeByte_needs hboot hpull hwant b
    rw [Ans2.takeBytes_cons, ih hboot' hpull' (by omega), Ans2.taking_cons hboot hpull hlen]

theorem Ans2.bytesWanted_takeBytes {bs : List Byte} {a : Ans2} (hlen : bs.length ≤ a.bytesWanted) :
    (a.takeBytes bs).bytesWanted + bs.length = a.bytesWanted := by
  induction bs generalizing a with
  | nil => rfl
  | cons b bs ih =>
    rw [List.length_cons] at hlen ⊢
    have hnext := Ans2.bytesWanted_takeByte (a := a) b (by omega)
    have htail := ih (a := a.takeByte b) (by omega)
    rw [Ans2.takeBytes_cons]
    omega

/-! ### The loop of `N_DEC_FILL` -/

/-- The state after taking `n` bytes of `IN`, or all there are (R178). -/
def State.fill (n : Nat) (s : State) : State :=
  { s with ans2 := s.ans2.takeBytes (s.queues.popBytes .input n), queues := s.queues.pop .input n }

theorem fillLoop_waits {n : Nat} {s : State} (hn : n ≠ 0) (h : s.queues.popAvail .input = 0) :
    fillLoop n s = .wait .input s := by
  obtain ⟨n, rfl⟩ := Nat.exists_eq_add_one_of_ne_zero hn
  exact if_pos h

/-- One pass takes one byte. -/
theorem fillLoop_succ {n : Nat} {s : State} (h : s.queues.popAvail .input ≠ 0) :
    fillLoop (n + 1) s = fillLoop n (s.fill 1) := by
  have hone : s.queues.popCount .input 1 = 1 := Nat.min_eq_left (Nat.pos_of_ne_zero h)
  have hbyte : s.queues.popBytes .input 1 = [((s.queues.popBytes .input 1).head?).getD 0] := by
    rw [Queues.popBytes, hone]
    rfl
  rw [State.fill, hbyte]
  exact if_neg h

/-- Taking more bytes than are there takes all there are. -/
theorem State.fill_beyond {s : State} {n : Nat} (hn : s.queues.popAvail .input ≤ n) :
    s.fill n = s.fill (s.queues.popAvail .input) := by
  have hcount : s.queues.popCount .input n = s.queues.popCount .input (s.queues.popAvail .input) := by
    simp only [Queues.popCount]
    omega
  simp only [State.fill, Queues.popBytes, Queues.pop, hcount]

section
variable {s : State} (hrd : s.queues.inRd.toNat ≤ 65536)
include hrd

theorem State.fill_zero : s.fill 0 = s := by
  have hnone : s.queues.popBytes .input 0 = [] := by
    rw [Queues.popBytes, Queues.popCount, Nat.zero_min]
    rfl
  rw [State.fill, hnone, Queues.pop_zero hrd]
  rfl

theorem State.fill_fill (n m : Nat) : (s.fill n).fill m = s.fill (n + m) := by
  simp only [State.fill, Queues.popBytes_add hrd, Ans2.takeBytes_append, Queues.pop_pop hrd]

/-- The first passes of the loop take the bytes that are there. -/
theorem fillLoop_add {n : Nat} (hn : n ≤ s.queues.popAvail .input) (m : Nat) :
    fillLoop (n + m) s = fillLoop m (s.fill n) := by
  induction n generalizing s with
  | zero => rw [Nat.zero_add, State.fill_zero hrd]
  | succ n ih =>
    have hrd' : (s.fill 1).queues.inRd.toNat ≤ 65536 := by
      have := Queues.pop_inRd (qs := s.queues) 1
      show (s.queues.pop .input 1).inRd.toNat ≤ 65536
      omega
    have hleft : (s.fill 1).queues.popAvail .input = s.queues.popAvail .input - 1 := Queues.popAvail_pop hrd 1
    rw [show n + 1 + m = n + m + 1 by omega, fillLoop_succ (by omega), ih hrd' (by omega), State.fill_fill hrd,
      Nat.add_comm 1]

theorem fillLoop_enough {n : Nat} (hn : n ≤ s.queues.popAvail .input) : fillLoop n s = .ok () (s.fill n) :=
  fillLoop_add hrd hn 0

theorem fillLoop_short {n : Nat} (hn : s.queues.popAvail .input < n) :
    fillLoop n s = .wait .input (s.fill n) := by
  have hleft : (s.fill (s.queues.popAvail .input)).queues.popAvail .input = 0 := by
    show (s.queues.pop .input _).popAvail .input = 0
    rw [Queues.popAvail_pop hrd, Nat.sub_self]
  rw [← Nat.add_sub_cancel' hn.le, fillLoop_add hrd (Nat.le_refl _), fillLoop_waits (by omega) hleft,
    Nat.add_sub_cancel' hn.le, State.fill_beyond hn.le]

variable (hwr : s.queues.inWr.toNat ≤ 65536)
include hwr

/-- Bytes that arrive while the loop waits may as well have been there from the start. -/
theorem State.fill_push {src : List Byte} (hsrc : src.length ≤ s.queues.pushAvail .input) {n : Nat}
    (hn : n ≤ s.queues.popAvail .input) : (s.push .input src).fill n = (s.fill n).push .input src := by
  simp only [State.fill, State.push, Queues.popBytes_push_input hrd hwr hsrc hn, Queues.pop_push_input hrd hwr hsrc hn]

end

/-! ### What the bytes make -/

section
variable {a : Ans2} {bs : List Byte}

/-- A whole state block, loaded low byte first (R178). -/
theorem Ans2.taking_block (hboot : a.bootNeed = 16) (hpull : a.pullNeed = 0) (hA : a.stateA = 0) (hB : a.stateB = 0)
    (hlen : bs.length = 16) :
    (a.taking bs).stateA.toNat = fromLE (bs.take 8) ∧ (a.taking bs).stateB.toNat = fromLE (bs.drop 8) := by
  have hlt : fromLE bs < 2 ^ 128 := by
    have h := fromLE_lt bs
    rwa [hlen] at h
  have hblock : a.block ||| bytesAt 128 (16 - a.bootNeed.toNat) (bs.take a.bootNeed.toNat) =
      BitVec.ofNat 128 (fromLE bs) := by
    rw [Ans2.block, hA, hB, hboot, show (16 : BitVec 5).toNat = 16 from rfl, List.take_of_length_le hlen.le]
    simp [bytesAt]
  have hdrop : bs.drop a.bootNeed.toNat = [] := by
    rw [hboot]
    exact List.drop_of_length_le hlen.le
  rw [Ans2.taking_eq, hblock, hdrop, fromLE_take, fromLE_drop]
  simp only [Ans2.pulling, hpull]
  constructor
  · rw [BitVec.extractLsb'_toNat, BitVec.toNat_ofNat, Nat.mod_eq_of_lt hlt]
    rfl
  · rw [if_neg (by simp), BitVec.extractLsb'_toNat, BitVec.toNat_ofNat, Nat.mod_eq_of_lt hlt,
      Nat.shiftRight_eq_div_pow]
    omega

/-- A whole pull is the low word of `state_b` (R178). -/
theorem Ans2.taking_pull (hboot : a.bootNeed = 0) (hpull : a.pullNeed = 4) (hacc : a.pullAcc = 0)
    (hB : a.stateB.toNat < 2147483648) (hlen : bs.length = 4) :
    (a.taking bs).stateA = a.stateA ∧ (a.taking bs).pullAcc = 0 ∧
      (a.taking bs).stateB.toNat = a.stateB.toNat * 2 ^ 32 + fromLE bs := by
  have hlt : fromLE bs < 2 ^ 32 := by
    have h := fromLE_lt bs
    rwa [hlen] at h
  rw [Ans2.taking_of_booted hboot]
  simp only [Ans2.pulling, Ans2.block_low, Ans2.block_high, hpull, hacc, hlen]
  have hword : (0 ||| bytesAt 32 (4 - (4 : BitVec 3).toNat) bs).toNat = fromLE bs := by
    simpa [bytesAt] using hlt
  refine ⟨trivial, rfl, ?_⟩
  rw [if_pos (by decide), hword, BitVec.toNat_ofNat]
  omega

end

/-! ### The operations -/

/-- A fill that is the same in two decode sessions is the same operation. -/
theorem exec_nDecFill_congr {s u : State} (hs : s.decoding) (hu : u.decoding)
    (h : symFill s.lock = symFill u.lock) : exec .nDecFill s = exec .nDecFill u := by
  rw [exec_nDecFill hs, exec_nDecFill hu, h]

theorem Ans2.bytesWanted_eq_zero_iff {a : Ans2} : a.bytesWanted = 0 ↔ a.bootNeed = 0 ∧ a.pullNeed = 0 := by
  unfold bytesWanted
  bv_omega

theorem symFill_done {s : State} (h : s.ans2.bytesWanted = 0) : symFill s = .ok () s := by rw [symFill, h]; rfl

/-- What a fill leaves, by what the bytes taken make of the registers. -/
theorem State.fill_eq_taking {s : State} (hboot : s.ans2.bootNeed.toNat ≤ 16) (hpull : s.ans2.pullNeed.toNat ≤ 4) :
    s.fill s.ans2.bytesWanted =
      { s with
        ans2 := s.ans2.taking (s.queues.popBytes .input s.ans2.bytesWanted)
        queues := s.queues.pop .input s.ans2.bytesWanted } := by
  have hlen : (s.queues.popBytes .input s.ans2.bytesWanted).length ≤ s.ans2.bytesWanted := by
    rw [Queues.length_popBytes]
    exact Nat.min_le_left _ _
  rw [State.fill, Ans2.takeBytes_eq_taking hboot hpull hlen]

/-- What a fill still wants. -/
theorem State.bytesWanted_fill (s : State) :
    (s.fill s.ans2.bytesWanted).ans2.bytesWanted + min s.ans2.bytesWanted (s.queues.popAvail .input) =
      s.ans2.bytesWanted := by
  have hlen := s.queues.length_popBytes .input s.ans2.bytesWanted
  have htake := Ans2.bytesWanted_takeBytes (bs := s.queues.popBytes .input s.ans2.bytesWanted) (a := s.ans2)
    (by rw [hlen]; exact Nat.min_le_left _ _)
  rwa [hlen] at htake

/-- A fill that waited and is given more bytes ends as one that had them from the start. -/
theorem symFill_push {s : State} (hrd : s.queues.inRd.toNat ≤ 65536) (hwr : s.queues.inWr.toNat ≤ 65536)
    (hshort : s.queues.popAvail .input < s.ans2.bytesWanted) {src : List Byte}
    (hsrc : src.length ≤ s.queues.pushAvail .input) :
    symFill (s.push .input src) = symFill ((s.fill s.ans2.bytesWanted).push .input src) := by
  have havail := Queues.popAvail_push_input hrd hwr hsrc
  have hwant := s.bytesWanted_fill
  rw [Nat.min_eq_right hshort.le, Nat.add_comm] at hwant
  have hfirst : s.queues.popAvail .input ≤ (s.push .input src).queues.popAvail .input := by
    rw [State.push_queues, havail]
    exact Nat.le_add_right _ _
  calc symFill (s.push .input src)
      = fillLoop (s.queues.popAvail .input + (s.fill s.ans2.bytesWanted).ans2.bytesWanted) (s.push .input src) := by
        rw [hwant, symFill, State.push_ans2]
    _ = fillLoop (s.fill s.ans2.bytesWanted).ans2.bytesWanted ((s.push .input src).fill (s.queues.popAvail .input)) :=
        fillLoop_add (s := s.push .input src) hrd hfirst _
    _ = symFill ((s.fill s.ans2.bytesWanted).push .input src) := by
        rw [State.fill_push hrd hwr hsrc (Nat.le_refl _), ← State.fill_beyond hshort.le, symFill, State.push_ans2]

/-- Settles O24: a fill is `State.fill`, and what it makes of the registers is `Ans2.taking`. -/
theorem decoderFillResult : Obligations.DecoderFillResult := by
  intro s hdec hrd hwr hboot hpull need filled
  have hfilled : s.lock.fill need = filled := State.fill_eq_taking (s := s.lock) hboot hpull
  have hwant : filled.ans2.bytesWanted + min need (s.queues.popAvail .input) = need := by
    rw [← hfilled]
    exact s.lock.bytesWanted_fill
  refine ⟨fun h => ?none, fun h => ?enough, fun h => ?short⟩
  case none =>
    have hdone : symFill s.lock = .ok () s.lock := symFill_done h
    rw [exec_nDecFill hdec, exec_nDecGetOffset hdec, symOffset, hdone]
    exact ⟨rfl, rfl⟩
  case enough =>
    have hfill : symFill s.lock = .ok () filled := hfilled ▸ fillLoop_enough (s := s.lock) hrd h
    rw [exec_nDecFill hdec, exec_nDecGetOffset hdec, symOffset, hfill]
    rw [Nat.min_eq_left h] at hwant
    have hzero : filled.ans2.bytesWanted = 0 := by omega
    obtain ⟨hboot0, hpull0⟩ := Ans2.bytesWanted_eq_zero_iff.mp hzero
    refine ⟨_, rfl, rfl, hboot0, hpull0, rfl, fun hb hp hA hB => ?block, fun hb hp hacc hB => ?pull⟩
    case block =>
      have hneed : need = 16 := by simp [need, hb, hp]
      rw [← hneed]
      exact Ans2.taking_block hb hp hA hB ((Queues.length_popBytes _ _ _).trans ((Nat.min_eq_left h).trans hneed))
    case pull =>
      have hneed : need = 4 := by simp [need, hb, hp]
      rw [← hneed]
      exact Ans2.taking_pull hb hp hacc hB ((Queues.length_popBytes _ _ _).trans ((Nat.min_eq_left h).trans hneed))
  case short =>
    have hfill : symFill s.lock = .wait .input filled := hfilled ▸ fillLoop_short (s := s.lock) hrd h
    rw [exec_nDecFill hdec, exec_nDecGetOffset hdec, symOffset, hfill]
    rw [Nat.min_eq_right h.le] at hwant
    refine ⟨_, rfl, rfl, rfl, (Queues.popAvail_pop hrd need).trans (Nat.sub_eq_zero_of_le h.le), hwant,
      fun src hsrc => ?resumed⟩
    case resumed =>
      have hcount : (filled.answer .needsMoreInput .nothing).queues.pushCount .input src =
          s.queues.pushCount .input src := Queues.pushCount_pop hrd hwr hsrc need
      have hpush := exec_bqPushData (s := filled.answer .needsMoreInput .nothing) hdec.1 .input src
      rw [hcount] at hpush
      refine ⟨_, _, hpush, exec_bqPushData hdec.1 .input src, ?_⟩
      let v : State := (s.answer .success (.count (BitVec.ofNat 32 (s.queues.pushCount .input src)))).lock
      have hresume : symFill (v.push .input src) = symFill ((v.fill v.ans2.bytesWanted).push .input src) :=
        symFill_push (s := v) hrd hwr h hsrc
      rw [State.fill_eq_taking (s := v) hboot hpull] at hresume
      exact exec_nDecFill_congr hdec hdec hresume.symm

end Sys2Proof.Machine
end

section
/-! SUPPORT. A bit as a symbol of the 15-bit scale (R183, R184). -/

namespace Sys2Proof.Machine

section
variable {bit : Bool} {p : Byte}

/-! ### The interval of a bit -/

theorem toNat_bitStart : (bitStart bit p).toNat = if bit then p.toNat * 128 else 0 := by
  have hp := p.isLt
  cases bit
  · rfl
  · exact Nat.mod_eq_of_lt (by omega)

theorem bitFreq_eq (bit : Bool) (p : Byte) :
    bitFreq bit p = BitVec.ofNat 16 ((if bit then 256 - p.toNat else p.toNat) * 128) := by
  cases bit <;> rfl

theorem toNat_bitFreq : (bitFreq bit p).toNat = (if bit then 256 - p.toNat else p.toNat) * 128 := by
  have hp := p.isLt
  rw [bitFreq_eq, BitVec.toNat_ofNat]
  exact Nat.mod_eq_of_lt (by split <;> omega)

/-- The intervals of the two bits are not empty and share out the scale (R183). -/
theorem bitInterval (hp : p ≠ 0) :
    bitFreq bit p ≠ 0 ∧
      (bitStart bit p).toNat + (bitFreq bit p).toNat = if bit then 32768 else p.toNat * 128 := by
  have hpos : p.toNat ≠ 0 := fun h => hp (BitVec.eq_of_toNat_eq h)
  have hlt := p.isLt
  have hfreq : (bitFreq bit p).toNat ≠ 0 := by
    rw [toNat_bitFreq]
    split <;> omega
  refine ⟨fun h => hfreq (by rw [h]; rfl), ?_⟩
  rw [toNat_bitStart, toNat_bitFreq]
  split <;> omega

theorem bitInterval_le (hp : p ≠ 0) : (bitStart bit p).toNat + (bitFreq bit p).toNat ≤ 32768 := by
  have hlt := p.isLt
  rw [(bitInterval hp).2]
  split <;> omega

/-! ### Putting a bit -/

variable {s : State}

theorem symPutBit_zero : symPutBit bit 0 s = raise .protocolViolation s := if_pos rfl

theorem symPutBit_eq (hp : p ≠ 0) : symPutBit bit p s = symPut (bitStart bit p) (bitFreq bit p) s := if_neg hp

/-! ### Getting a bit -/

theorem symGetBit_zero : symGetBit 0 s = raise .protocolViolation s := if_pos rfl

/-- With no bytes needed the bit is the one whose interval owns the offset, and is used as a symbol (R184). -/
theorem symGetBit_ready (hp : p ≠ 0) (hboot : s.ans2.bootNeed = 0) (hpull : s.ans2.pullNeed = 0)
    (hbit : bit = true ↔ p.toNat * 128 ≤ s.ans2.offset) :
    let used : State := { s with ans2 := s.ans2.advance (bitStart bit p).toNat (bitFreq bit p).toNat }
    symAdvance (bitStart bit p) (bitFreq bit p) s = .ok () used ∧ symGetBit p s = .ok bit used := by
  obtain ⟨hfreq, hsum⟩ := bitInterval (bit := bit) hp
  have hoff : s.ans2.offset < 32768 := Nat.mod_lt _ (by decide)
  have howned : (bitStart bit p).toNat ≤ s.ans2.offset ∧
      s.ans2.offset < (bitStart bit p).toNat + (bitFreq bit p).toNat := by
    rw [hsum, toNat_bitStart]
    cases bit
    · exact ⟨Nat.zero_le _, Nat.lt_of_not_le fun h => nomatch hbit.mpr h⟩
    · exact ⟨hbit.mp rfl, hoff⟩
  have hused := symAdvance_owned hboot hpull hfreq howned.1 howned.2 (bitInterval_le hp)
  have hdecide : decide (p.toNat * 128 ≤ s.ans2.offset) = bit := by
    rw [Bool.eq_iff_iff, decide_eq_true_iff, hbit]
  have hfill : symFill s = .ok () s := symFill_done (Ans2.bytesWanted_eq_zero_iff.mpr ⟨hboot, hpull⟩)
  refine ⟨hused, ?_⟩
  rw [symGetBit, if_neg hp, symOffset, hfill]
  show (symAdvance (bitStart (decide (p.toNat * 128 ≤ s.ans2.offset)) p) _ s).map _ = _
  rw [hdecide, hused]
  rfl

/-- Bytes needed are taken first (R184). -/
theorem symGetBit_filled {u : State} (hp : p ≠ 0) (hfill : symFill s = .ok () u) (hdone : u.ans2.bytesWanted = 0) :
    symGetBit p s = symGetBit p u := by
  rw [symGetBit, symGetBit, if_neg hp, if_neg hp, symOffset, symOffset, hfill, symFill_done hdone]

theorem symGetBit_waits {u : State} (hp : p ≠ 0) (hfill : symFill s = .wait .input u) :
    symGetBit p s = .wait .input u := by
  rw [symGetBit, if_neg hp, symOffset, hfill]
  rfl

end

/-- A loop for all the bytes wanted takes them, or waits for more (R178). -/
theorem fillLoop_cases {n : Nat} {s : State} (h : s.ans2.bytesWanted = n) :
    (∃ u, fillLoop n s = .ok () u ∧ u.ans2.bytesWanted = 0) ∨ ∃ u, fillLoop n s = .wait .input u := by
  induction n generalizing s with
  | zero => exact .inl ⟨s, rfl, h⟩
  | succ n ih =>
    by_cases ha : s.queues.popAvail .input = 0
    · exact .inr ⟨s, fillLoop_waits (Nat.succ_ne_zero n) ha⟩
    · have hone : (s.queues.popBytes .input 1).length = 1 :=
        (s.queues.length_popBytes .input 1).trans (Nat.min_eq_left (Nat.pos_of_ne_zero ha))
      have htake := Ans2.bytesWanted_takeBytes (bs := s.queues.popBytes .input 1) (a := s.ans2) (by omega)
      rw [fillLoop_succ ha]
      exact ih (show (s.ans2.takeBytes _).bytesWanted = n by omega)

theorem symFill_cases (s : State) :
    (∃ u, symFill s = .ok () u ∧ u.ans2.bytesWanted = 0) ∨ ∃ u, symFill s = .wait .input u := fillLoop_cases rfl

theorem State.lock_of_locked {s : State} (h : s.ctl.cfgLocked = true) : s.lock = s := by
  unfold State.lock
  rw [← h]

/-- Getting a bit where bytes are needed is getting it after the fill. -/
theorem exec_nGetBit_filled {s u : State} {p : Byte} (hdec : s.decoding) (hp : p ≠ 0)
    (hfill : symFill s.lock = .ok () u) (hdone : u.ans2.bytesWanted = 0) :
    exec (.nGetBit p) s = exec (.nGetBit p) (u.answer .success .nothing) := by
  have hmoves : Moves (fun _ => true) s.lock u := by
    have hends : (symFill s.lock).Ends (Moves (fun _ => true) s.lock) := symFill_ends rfl rfl
    rwa [hfill] at hends
  obtain ⟨hboot, hpull⟩ := Ans2.bytesWanted_eq_zero_iff.mp hdone
  have hbit : decide (p.toNat * 128 ≤ u.ans2.offset) = true ↔ p.toNat * 128 ≤ u.ans2.offset := decide_eq_true_iff
  have hlocked : (u.answer .success .nothing).lock = u.answer .success .nothing :=
    State.lock_of_locked hmoves.cfgLocked_eq
  have hdec' : (u.answer .success .nothing).decoding :=
    ⟨hmoves.failed_eq.trans hdec.1, hmoves.isDecode_eq.trans hdec.2⟩
  rw [exec_nGetBit hdec, symGetBit_filled hp hfill hdone, (symGetBit_ready hp hboot hpull hbit).2,
    exec_nGetBit hdec', hlocked, (symGetBit_ready (s := u.answer .success .nothing) hp hboot hpull hbit).2]
  rfl

/-- Settles O26: a put is `symPut` of the bit's interval, and a get is `symGetBit_ready` after a fill. -/
theorem bitsAsSymbols : Obligations.BitsAsSymbols := by
  intro s bit p start freq
  have hfreq : freq = bitFreq bit p := (bitFreq_eq bit p).symm
  refine ⟨fun henc => ⟨?putZero, ?put, ?putRoom⟩, fun hdec => ⟨?getZero, ?get, ?getEmpty, ?getFill⟩⟩
  case putZero =>
    rintro rfl
    rw [exec_nPutBit henc, symPutBit_zero]
    rfl
  case put =>
    intro hp
    rw [exec_nPutBit henc, exec_nEncPut henc, symPutBit_eq hp, hfreq]
    rfl
  case putRoom =>
    intro hp he hn
    obtain ⟨hnonzero, -⟩ := bitInterval (bit := bit) hp
    rw [exec_nPutBit henc, symPutBit_eq hp, symPut_room (s := s.lock) he hnonzero (bitInterval_le hp) hn, hfreq]
    rfl
  case getZero =>
    rintro rfl
    rw [exec_nGetBit hdec, symGetBit_zero]
    rfl
  case get =>
    intro hp hboot hpull hbit
    obtain ⟨hused, hget⟩ := symGetBit_ready (s := s.lock) hp hboot hpull hbit
    rw [exec_nDecAdvanceSym hdec, exec_nGetBit hdec, hget, hfreq, show start = bitStart bit p from rfl, hused]
    exact ⟨_, rfl, rfl, rfl⟩
  case getEmpty =>
    intro hp hneed ha
    have hwant : s.ans2.bytesWanted ≠ 0 := fun h0 => by
      obtain ⟨hboot, hpull⟩ := Ans2.bytesWanted_eq_zero_iff.mp h0
      exact hneed.elim (· hboot) (· hpull)
    rw [exec_nGetBit hdec, symGetBit_waits hp (fillLoop_waits (s := s.lock) hwant ha)]
    rfl
  case getFill =>
    intro hp hneed
    rw [exec_nDecFill hdec]
    rcases symFill_cases s.lock with ⟨u, hfill, hdone⟩ | ⟨u, hfill⟩
    · obtain ⟨hboot, hpull⟩ := Ans2.bytesWanted_eq_zero_iff.mp hdone
      rw [hfill]
      exact ⟨_, rfl, .inl ⟨rfl, hboot, hpull, exec_nGetBit_filled hdec hp hfill hdone⟩⟩
    · rw [exec_nGetBit hdec, symGetBit_waits hp hfill, hfill]
      exact ⟨_, rfl, .inr ⟨rfl, rfl⟩⟩

end Sys2Proof.Machine
end

section
/-! SUPPORT. Cells of the probability model as numbers: what a valid cell is in its buckets (R200, R204), the counts
of a blend and of an average (R210, R215) with the width of the buckets they leave (R211, R216), and the intervals of
a cell (R217 to R219). -/

namespace Sys2Proof.Machine

/-! ### Counts and buckets -/

theorem cdf_eq_toNat (x : Cdf16) {i : Nat} (h : i < 16) : cdf x i = x[i].toNat := by
  simp [cdf, h]

theorem cdf_ofFn (f : Fin 16 → BitVec 16) {i : Nat} (h : i < 16) : cdf (Vector.ofFn f) i = (f ⟨i, h⟩).toNat := by
  rw [cdf_eq_toNat _ h, Vector.getElem_ofFn]

/-- Every bucket holds at least `k > 0` exactly when the counts rise by at least `k`, from 0 on. -/
theorem le_pdf_iff {x : Cdf16} {k : Nat} (hk : 0 < k) :
    (∀ i < 16, k ≤ pdf x i) ↔ k ≤ cdf x 0 ∧ ∀ i < 15, cdf x i + k ≤ cdf x (i + 1) := by
  constructor
  · intro h
    refine ⟨h 0 (by omega), fun i hi => ?_⟩
    have hpdf : k ≤ cdf x (i + 1) - cdf x i := h (i + 1) (by omega)
    omega
  · rintro ⟨hfirst, hrise⟩ i hi
    cases i with
    | zero => exact hfirst
    | succ i =>
      have := hrise i (by omega)
      show k ≤ cdf x (i + 1) - cdf x i
      omega

/-- A cell is valid exactly when no bucket is empty and the total is in range (R200, R221). -/
theorem validCell_iff_pdf {x : Cdf16} : validCell x = true ↔ (∀ i < 16, 1 ≤ pdf x i) ∧ cdf x 15 ≤ 32767 := by
  rw [le_pdf_iff Nat.one_pos]
  simp only [validCell, Bool.and_eq_true, List.all_eq_true, List.mem_range, decide_eq_true_eq]
  rfl

/-- A cell is valid exactly when its counts rise strictly from above 0 to at most 32767 (R221). -/
theorem validCell_iff {x : Cdf16} :
    validCell x = true ↔
      0 < cdf x 0 ∧ (∀ i, 1 ≤ i → i ≤ 15 → cdf x (i - 1) < cdf x i) ∧ cdf x 15 ≤ 32767 := by
  rw [validCell_iff_pdf, le_pdf_iff Nat.one_pos, and_assoc]
  refine and_congr_right fun _ => and_congr_left fun _ => ⟨fun h i h1 h15 => ?_, fun h i hi => ?_⟩
  · have hrise := h (i - 1) (by omega)
    rwa [Nat.sub_add_cancel h1] at hrise
  · exact h (i + 1) (by omega) (by omega)

/-- The counts of a valid cell rise. -/
theorem cdf_mono {x : Cdf16} (hv : validCell x = true) {i j : Nat} (hij : i ≤ j) (hj : j < 16) :
    cdf x i ≤ cdf x j := by
  obtain ⟨-, hrise⟩ := (le_pdf_iff Nat.one_pos).mp (validCell_iff_pdf.mp hv).1
  induction hij with
  | refl => exact Nat.le_refl _
  | @step j _ ih => exact (ih (by omega)).trans (Nat.le_of_succ_le (hrise j (by omega)))

/-- In a valid cell the total is the greatest count. -/
theorem cdf_le_total {x : Cdf16} (hv : validCell x = true) {i : Nat} (hi : i < 16) : cdf x i ≤ cdf x 15 :=
  cdf_mono hv (by omega) (by omega)

theorem cdf_total_pos {x : Cdf16} (hv : validCell x = true) : 0 < cdf x 15 :=
  (validCell_iff.mp hv).1.trans_le (cdf_le_total hv (by omega))

/-! ### Blend -/

/-- `speedInc` as the table of R209. -/
theorem speedInc_eq (speed : BitVec 3) :
    speedInc speed = ([2, 4, 16, 32, 48, 96, 128, 384] : List Nat)[speed.toNat]! :=
  List.getElem!_eq_getElem?_getD.symm

theorem speedInc_le (speed : BitVec 3) : speedInc speed ≤ 384 := by
  revert speed
  decide

/-- The count of bucket `i` after `inc` more of the symbol `sym`, before any decay (R210). -/
def raisedCount (x : Cdf16) (sym inc i : Nat) : Nat := cdf x i + if sym ≤ i then inc else 0

theorem raisedCount_le (x : Cdf16) (sym inc i : Nat) : raisedCount x sym inc i ≤ cdf x i + inc := by
  unfold raisedCount
  split <;> omega

/-- A raise keeps what the counts rise by. -/
theorem raisedCount_rises {x : Cdf16} {k i : Nat} (sym inc : Nat) (h : cdf x i + k ≤ cdf x (i + 1)) :
    raisedCount x sym inc i + k ≤ raisedCount x sym inc (i + 1) := by
  unfold raisedCount
  split <;> split <;> omega

theorem cdf_raiseFrom {x : Cdf16} {sym inc i : Nat} (hi : i < 16) (hfits : cdf x i + inc < 65536) :
    cdf (raiseFrom x sym inc) i = raisedCount x sym inc i := by
  rw [cdf_eq_toNat x hi] at hfits
  rw [raiseFrom, cdf_ofFn _ hi, raisedCount, cdf_eq_toNat x hi]
  by_cases h : sym ≤ i
  · rw [if_pos h, if_pos h]
    exact (BitVec.toNat_ofNat _ _).trans (Nat.mod_eq_of_lt hfits)
  · rw [if_neg h, if_neg h]
    rfl

/-- A decayed count fits its cell, so the counts of a rescale are the decayed counts (R210). -/
theorem cdf_rescale (x : Cdf16) {i : Nat} (hi : i < 16) : cdf (rescale x) i = decay (cdf x i) i := by
  have hfits : decay x[i].toNat i < 65536 := by
    have := x[i].isLt
    unfold decay
    omega
  rw [rescale, cdf_ofFn _ hi, cdf_eq_toNat x hi, BitVec.toNat_ofNat]
  exact Nat.mod_eq_of_lt hfits

/-- A decay keeps a rise of at most 4, for the bias adds 2 to it (R210). -/
theorem decay_rises {k c d i : Nat} (hk : k ≤ 4) (h : c + k ≤ d) : decay c i + k ≤ decay d (i + 1) := by
  unfold decay
  omega

/-- The counts of a blend of a valid cell (R210). -/
theorem cdf_blend {x : Cdf16} (hv : validCell x = true) (sym : Nibble) (speed : BitVec 3) {i : Nat} (hi : i < 16) :
    cdf (blend x sym.toNat speed) i =
      if raisedCount x sym.toNat (speedInc speed) 15 < 32351 then raisedCount x sym.toNat (speedInc speed) i
      else decay (raisedCount x sym.toNat (speedInc speed) i) i := by
  have hraise {j : Nat} (hj : j < 16) :
      cdf (raiseFrom x sym.toNat (speedInc speed)) j = raisedCount x sym.toNat (speedInc speed) j := by
    refine cdf_raiseFrom hj ?_
    have := cdf_le_total hv hj
    have := (validCell_iff_pdf.mp hv).2
    have := speedInc_le speed
    omega
  simp only [blend, cdfTotal, Config.rescaleLimit, hraise (show 15 < 16 by omega)]
  split
  · rw [if_neg (by omega), cdf_rescale _ hi, hraise hi]
  · rw [if_pos (by omega), hraise hi]

/-- A blend keeps every bucket of at least `k`, for `k` up to 4 (R211). -/
theorem le_pdf_blend {x : Cdf16} {k : Nat} (hv : validCell x = true) (hk : 0 < k) (hk4 : k ≤ 4)
    (h : ∀ i < 16, k ≤ pdf x i) (sym : Nibble) (speed : BitVec 3) :
    ∀ i < 16, k ≤ pdf (blend x sym.toNat speed) i := by
  rw [le_pdf_iff hk] at h ⊢
  obtain ⟨hfirst, hrise⟩ := h
  have hfirst' : k ≤ raisedCount x sym.toNat (speedInc speed) 0 := Nat.le_add_right_of_le hfirst
  refine ⟨?first, fun i hi => ?rises⟩
  case first =>
    rw [cdf_blend hv _ _ (by omega)]
    split
    · exact hfirst'
    · unfold decay
      omega
  case rises =>
    have hrise' := raisedCount_rises sym.toNat (speedInc speed) (hrise i hi)
    rw [cdf_blend hv _ _ (by omega), cdf_blend hv _ _ (by omega)]
    split
    · exact hrise'
    · exact decay_rises hk4 hrise'

/-- The total of a blended valid cell is below the limit of the rescale (R211). -/
theorem total_blend_le {x : Cdf16} (hv : validCell x = true) (sym : Nibble) (speed : BitVec 3) :
    cdf (blend x sym.toNat speed) 15 ≤ 32350 := by
  have hup := raisedCount_le x sym.toNat (speedInc speed) 15
  have := (validCell_iff_pdf.mp hv).2
  have := speedInc_le speed
  rw [cdf_blend hv _ _ (by omega)]
  split
  · omega
  · unfold decay
    omega

/-- A blend keeps a valid cell valid (R211). -/
theorem validCell_blend {x : Cdf16} (hv : validCell x = true) (sym : Nibble) (speed : BitVec 3) :
    validCell (blend x sym.toNat speed) = true :=
  validCell_iff_pdf.mpr
    ⟨le_pdf_blend hv Nat.one_pos (by omega) (validCell_iff_pdf.mp hv).1 sym speed,
      (total_blend_le hv sym speed).trans (by omega)⟩

theorem validCell_of_wideCell {x : Cdf16} (h : wideCell x) : validCell x = true := by
  obtain ⟨htotal, hwide⟩ := h
  exact validCell_iff_pdf.mpr ⟨fun i hi => (hwide i hi).trans' (by omega), htotal.trans (by omega)⟩

theorem wideCell_blend {x : Cdf16} (h : wideCell x) (sym : Nibble) (speed : BitVec 3) :
    wideCell (blend x sym.toNat speed) :=
  have hv := validCell_of_wideCell h
  ⟨total_blend_le hv sym speed, le_pdf_blend hv (by omega) (Nat.le_refl 4) h.2 sym speed⟩

/-! ### Average -/

theorem lt_two_pow_bitlen (m : Nat) : m < 2 ^ bitlen m := by
  unfold bitlen
  split
  · omega
  · exact Nat.lt_log2_self

theorem two_pow_bitlen_le {m : Nat} (h : 0 < m) : 2 ^ bitlen m ≤ 2 * m := by
  rw [bitlen, if_neg (by omega), Nat.pow_succ']
  exact Nat.mul_le_mul_left 2 (Nat.log2_self_le (by omega))

/-- The numerator of R215, before the shifts. -/
def averageSum (a b ma mb w : Nat) : Nat := a * w * mb + b * (32768 - w) * ma

/-- The two shifts of R215 as one division. -/
theorem averageCount_eq (a b ma mb w : Nat) :
    averageCount a b ma mb w = averageSum a b ma mb w / (32768 * 2 ^ bitlen (min ma mb)) :=
  Nat.div_div_eq_div_mul _ _ _

theorem averageSum_mono {a b a' b' : Nat} (ma mb w : Nat) (ha : a ≤ a') (hb : b ≤ b') :
    averageSum a b ma mb w ≤ averageSum a' b' ma mb w := by
  unfold averageSum
  gcongr

/-- The two weights make up the scale, so the sum at the totals is their product on it. -/
theorem averageSum_total (ma mb : Nat) {w : Nat} (hw : w ≤ 32768) :
    averageSum ma mb ma mb w = 32768 * (ma * mb) := by
  calc averageSum ma mb ma mb w = (w + (32768 - w)) * (ma * mb) := by unfold averageSum; ring
    _ = 32768 * (ma * mb) := by rw [Nat.add_sub_cancel' hw]

/-- Four more in each count are two more after the shifts: the smaller total is at least half the power of two
divided by (R216). -/
theorem averageSum_rises {a b a' b' ma mb w : Nat} (hw : w ≤ 32768) (hm : 0 < min ma mb) (ha : a + 4 ≤ a')
    (hb : b + 4 ≤ b') :
    averageSum a b ma mb w + 2 * (32768 * 2 ^ bitlen (min ma mb)) ≤ averageSum a' b' ma mb w := by
  have hpow := two_pow_bitlen_le hm
  have hsmall : 32768 * min ma mb ≤ w * mb + (32768 - w) * ma :=
    calc 32768 * min ma mb = w * min ma mb + (32768 - w) * min ma mb := by rw [← Nat.add_mul, Nat.add_sub_cancel' hw]
      _ ≤ w * mb + (32768 - w) * ma := by gcongr <;> simp
  calc averageSum a b ma mb w + 2 * (32768 * 2 ^ bitlen (min ma mb))
      ≤ averageSum a b ma mb w + 4 * (w * mb + (32768 - w) * ma) := by omega
    _ = averageSum (a + 4) (b + 4) ma mb w := by unfold averageSum; ring
    _ ≤ averageSum a' b' ma mb w := averageSum_mono ma mb w ha hb

theorem averageCount_rises {a b a' b' ma mb w : Nat} (hw : w ≤ 32768) (hm : 0 < min ma mb) (ha : a + 4 ≤ a')
    (hb : b + 4 ≤ b') : averageCount a b ma mb w + 2 ≤ averageCount a' b' ma mb w := by
  have hpos : 0 < 32768 * 2 ^ bitlen (min ma mb) := by positivity
  rw [averageCount_eq, averageCount_eq, ← Nat.add_mul_div_right _ _ hpos]
  exact Nat.div_le_div_right (averageSum_rises hw hm ha hb)

/-- The total of an average (R216). -/
theorem averageCount_total (ma mb : Nat) {w : Nat} (hw : w ≤ 32768) :
    averageCount ma mb ma mb w = ma * mb / 2 ^ bitlen (min ma mb) := by
  rw [averageCount_eq, averageSum_total ma mb hw, Nat.mul_div_mul_left _ _ (by omega)]

theorem averageCount_le_total {a b ma mb w : Nat} (hw : w ≤ 32768) (ha : a ≤ ma) (hb : b ≤ mb) :
    averageCount a b ma mb w ≤ ma * mb / 2 ^ bitlen (min ma mb) := by
  rw [← averageCount_total ma mb hw, averageCount_eq, averageCount_eq]
  exact Nat.div_le_div_right (averageSum_mono ma mb w ha hb)

/-- The smaller total and the power of two divided by are within a factor of two, so the larger total or at least half
of it is left (R216). -/
theorem averageTotal_bounds {ma mb : Nat} (hm : 0 < min ma mb) :
    max ma mb / 2 ≤ ma * mb / 2 ^ bitlen (min ma mb) ∧ ma * mb / 2 ^ bitlen (min ma mb) ≤ max ma mb := by
  have hlt := lt_two_pow_bitlen (min ma mb)
  have hle := two_pow_bitlen_le hm
  rw [← max_mul_min ma mb]
  constructor
  · rw [Nat.le_div_iff_mul_le (by positivity)]
    calc max ma mb / 2 * 2 ^ bitlen (min ma mb) ≤ max ma mb / 2 * (2 * min ma mb) := by gcongr
      _ = max ma mb / 2 * 2 * min ma mb := (Nat.mul_assoc ..).symm
      _ ≤ max ma mb * min ma mb := by gcongr; exact Nat.div_mul_le_self _ _
  · exact Nat.div_le_of_le_mul (by rw [Nat.mul_comm]; gcongr)

section
variable {x y : Cdf16} {w : Nat} (hx : validCell x = true) (hy : validCell y = true) (hw : w ≤ 32768)
include hx hy

theorem min_total_pos : 0 < min (cdf x 15) (cdf y 15) := lt_min (cdf_total_pos hx) (cdf_total_pos hy)

include hw

/-- No count of an average of valid cells is truncated (R215). -/
theorem cdf_average {i : Nat} (hi : i < 16) :
    cdf (average x y w) i = averageCount (cdf x i) (cdf y i) (cdf x 15) (cdf y 15) w := by
  have hle : averageCount (cdf x i) (cdf y i) (cdf x 15) (cdf y 15) w ≤ max (cdf x 15) (cdf y 15) :=
    (averageCount_le_total hw (cdf_le_total hx hi) (cdf_le_total hy hi)).trans
      (averageTotal_bounds (min_total_pos hx hy)).2
  have := (validCell_iff_pdf.mp hx).2
  have := (validCell_iff_pdf.mp hy).2
  rw [average, cdf_ofFn _ hi, BitVec.toNat_ofNat]
  show averageCount x[i].toNat y[i].toNat (cdf x 15) (cdf y 15) w % 65536 = _
  rw [← cdf_eq_toNat x hi, ← cdf_eq_toNat y hi, Nat.mod_eq_of_lt (by omega)]

theorem total_average :
    cdf (average x y w) 15 = cdf x 15 * cdf y 15 / 2 ^ bitlen (min (cdf x 15) (cdf y 15)) := by
  rw [cdf_average hx hy hw (by omega), averageCount_total _ _ hw]

/-- Buckets of at least 4 leave buckets of at least 2 in the average (R216). -/
theorem le_pdf_average (hx4 : ∀ i < 16, 4 ≤ pdf x i) (hy4 : ∀ i < 16, 4 ≤ pdf y i) :
    ∀ i < 16, 2 ≤ pdf (average x y w) i := by
  have hm := min_total_pos hx hy
  rw [le_pdf_iff (by omega)] at hx4 hy4 ⊢
  obtain ⟨hx0, hxrise⟩ := hx4
  obtain ⟨hy0, hyrise⟩ := hy4
  refine ⟨?first, fun i hi => ?rises⟩
  case first =>
    rw [cdf_average hx hy hw (by omega)]
    exact (Nat.le_add_left 2 _).trans (averageCount_rises (a := 0) (b := 0) hw hm (by omega) (by omega))
  case rises =>
    rw [cdf_average hx hy hw (by omega), cdf_average hx hy hw (by omega)]
    exact averageCount_rises hw hm (hxrise i hi) (hyrise i hi)

theorem validCell_average (hx4 : ∀ i < 16, 4 ≤ pdf x i) (hy4 : ∀ i < 16, 4 ≤ pdf y i) :
    validCell (average x y w) = true := by
  refine validCell_iff_pdf.mpr ⟨fun i hi => (le_pdf_average hx hy hw hx4 hy4 i hi).trans' (by omega), ?_⟩
  rw [total_average hx hy hw]
  exact (averageTotal_bounds (min_total_pos hx hy)).2.trans
    (max_le (validCell_iff_pdf.mp hx).2 (validCell_iff_pdf.mp hy).2)

end

/-- Settles O32: `wideCell_blend`, and the width and total of an average. -/
theorem blendAndAverageBounds : Obligations.BlendAndAverageBounds := by
  refine ⟨fun x sym speed h => ?blend, fun x y w hx hy hx4 hy4 hw => ?average⟩
  case blend => exact ⟨wideCell_blend h sym speed, validCell_blend (validCell_of_wideCell h) sym speed⟩
  case average =>
    intro m
    rw [show cdf m 15 = _ from total_average hx hy hw]
    exact ⟨validCell_average hx hy hw hx4 hy4, le_pdf_average hx hy hw hx4 hy4, rfl,
      averageTotal_bounds (min_total_pos hx hy)⟩

/-! ### Intervals -/

theorem scaledBelow_succ (x : Cdf16) (i : Nat) : scaledBelow x (i + 1) = scaled x i := rfl

/-- Where no symbol before `i` is above the offset, neither is the bound below `i`. -/
theorem scaledBelow_le_of_before {x : Cdf16} {i offset : Nat} (h : ∀ j < i, scaled x j ≤ offset) :
    scaledBelow x i ≤ offset := by
  cases i with
  | zero => exact Nat.zero_le _
  | succ i => exact h i (Nat.lt_succ_self i)

section
variable {x : Cdf16} (hv : validCell x = true)
include hv

theorem scaled_eq (i : Nat) : scaled x i = cdf x i * 32768 / cdf x 15 :=
  scaled_of_total_ne_zero (cdf_total_pos hv).ne' i

theorem scaled_mono {i j : Nat} (hij : i ≤ j) (hj : j < 16) : scaled x i ≤ scaled x j := by
  rw [scaled_eq hv, scaled_eq hv]
  gcongr
  exact cdf_mono hv hij hj

theorem scaled_le {i : Nat} (hi : i < 16) : scaled x i ≤ 32768 :=
  (scaled_mono hv (j := 15) (by omega) (by omega)).trans_eq (scaled_last x)

/-- A valid total is within the scale, so scaling keeps what the counts rise by (R217). -/
theorem quotient_rises {k c d : Nat} (h : c + k ≤ d) :
    c * 32768 / cdf x 15 + k ≤ d * 32768 / cdf x 15 := by
  rw [← Nat.add_mul_div_right _ _ (cdf_total_pos hv)]
  refine Nat.div_le_div_right ?_
  have := (validCell_iff_pdf.mp hv).2
  calc c * 32768 + k * cdf x 15 ≤ c * 32768 + k * 32768 := by gcongr; omega
    _ = (c + k) * 32768 := (Nat.add_mul ..).symm
    _ ≤ d * 32768 := by gcongr

/-- The scaled bounds of a symbol are at least as far apart as its bucket is wide (R217). -/
theorem scaledBelow_rises {k : Nat} (hk : 0 < k) (h : ∀ i < 16, k ≤ pdf x i) {i : Nat} (hi : i < 16) :
    scaledBelow x i + k ≤ scaled x i := by
  obtain ⟨hfirst, hrise⟩ := (le_pdf_iff hk).mp h
  rw [scaled_eq hv]
  cases i with
  | zero =>
    have := quotient_rises hv (k := k) (c := 0) (d := cdf x 0) (by omega)
    rwa [Nat.zero_mul, Nat.zero_div] at this
  | succ i =>
    rw [scaledBelow_succ, scaled_eq hv]
    exact quotient_rises hv (hrise i (by omega))

theorem scaled_le_scaledBelow {i j : Nat} (h : i < j) (hj : j < 16) : scaled x i ≤ scaledBelow x j := by
  rw [scaledBelow, if_neg (by omega)]
  exact scaled_mono hv (by omega) (by omega)

end

theorem symStart_toNat {x : Cdf16} {i : Nat} (h : scaledBelow x i < 65535) :
    (symStart x i).toNat = scaledBelow x i + 1 := by
  rw [symStart, BitVec.toNat_ofNat]
  exact Nat.mod_eq_of_lt (by omega)

theorem symFreq_eq {x : Cdf16} {i : Nat} (h : scaledBelow x i < scaled x i) :
    symFreq x i = BitVec.ofNat 16 (scaled x i - scaledBelow x i - 1) := by
  rw [symFreq, freqBetween, if_pos h]

theorem symFreq_toNat {x : Cdf16} {i : Nat} (h : scaledBelow x i < scaled x i) (hle : scaled x i ≤ 32768) :
    (symFreq x i).toNat = scaled x i - scaledBelow x i - 1 := by
  rw [symFreq_eq h, BitVec.toNat_ofNat]
  exact Nat.mod_eq_of_lt (by omega)

/-- The symbol of an offset is the one the offset lies below, with every symbol before it below the offset (R219). -/
theorem offsetSym_eq {x : Cdf16} {i offset : Nat} (hi : i ≤ 15) (hbefore : ∀ j < i, scaled x j ≤ offset)
    (hat : offset < scaled x i) : offsetSym x offset = i :=
  leastIndex_eq hi (fun j hj => by simpa using hbefore j hj) fun _ => by simpa using hat

/-- Settles O33: the scaled bounds of a symbol are at least 2 apart, so its interval is not empty, and those of the
symbols before it end where it begins. -/
theorem intervalOwnsOffsets : Obligations.IntervalOwnsOffsets := by
  intro x sym hv hpdf start freq
  have hsym : sym.toNat < 16 := sym.isLt
  have hwide : scaledBelow x sym.toNat + 2 ≤ scaled x sym.toNat := scaledBelow_rises hv (by omega) hpdf hsym
  have hscale : scaled x sym.toNat ≤ 32768 := scaled_le hv hsym
  have hstart : start = scaledBelow x sym.toNat + 1 := symStart_toNat (by omega)
  have hfreq : freq = scaled x sym.toNat - scaledBelow x sym.toNat - 1 := symFreq_toNat (by omega) hscale
  refine ⟨hstart, by omega, by omega, scaled_last x, by omega, fun offset hlo hhi => ?owned⟩
  have hbefore : ∀ j < sym.toNat, scaled x j ≤ offset := fun j hj =>
    (scaled_le_scaledBelow hv hj hsym).trans (by omega)
  exact offsetSym_eq (by omega) hbefore (by omega)

end Sys2Proof.Machine
end

section
/-! SUPPORT. The operations of the probability model: what each of them runs on a cell (R90, R203 to R223), what is
read after a cell is written, and the CDF2 operations (R226 to R228). -/

namespace Sys2Proof.Machine

/-! ### Operations on one cell -/

section
variable {s : State} (hf : s.ctl.failed = false)
include hf

/-- An operation of the model locks the configuration and does its body on the cell it addresses. -/
theorem runOp_withCell {a : BitVec 16} {x : Cdf16} (hx : s.cell? a = some x) (k : Cdf16 → State → Reply Returns) :
    runOp .always true (fun s => withCell a s fun c => k c s) s = (k x s.lock).outcome := by
  rw [runOp_legal hf rfl]
  exact congrArg Reply.outcome (withCell_some hx)

theorem runOp_noCell {a : BitVec 16} (ha : 41887 < a.toNat) (k : Cdf16 → State → Reply Returns) :
    runOp .always true (fun s => withCell a s fun c => k c s) s = .next (s.lock.failEntry .protocolViolation) := by
  rw [runOp_legal hf rfl]
  exact congrArg Reply.outcome (withCell_none (s := s.lock) ((s.lock.cell?_eq_none a).mpr ha))

section
variable {a : BitVec 16} {x : Cdf16} (hx : s.cell? a = some x)
include hx

theorem exec_pCdf (sym : Nibble) :
    exec (.pCdf a sym) s = .next (s.lock.answer .success (.value (BitVec.ofNat 16 (cdf x sym.toNat)))) :=
  show execPCdf a sym s = _ from runOp_withCell hf hx _

theorem exec_pPdf (sym : Nibble) :
    exec (.pPdf a sym) s = .next (s.lock.answer .success (.value (BitVec.ofNat 16 (pdf x sym.toNat)))) :=
  show execPPdf a sym s = _ from runOp_withCell hf hx _

theorem exec_pMax : exec (.pMax a) s = .next (s.lock.answer .success (.value (BitVec.ofNat 16 (cdf x 15)))) :=
  show execPMax a s = _ from runOp_withCell hf hx _

theorem exec_pLogMax : exec (.pLogMax a) s = .next (s.lock.answer .success (.logMax false 0)) :=
  show execPLogMax a s = _ from runOp_withCell hf hx _

theorem exec_pRead : exec (.pRead a) s = .next (s.lock.answer .success (.cell x)) :=
  show execPRead a s = _ from runOp_withCell hf hx _

theorem exec_pValid : exec (.pValid a) s = .next (s.lock.answer .success (.ok (validCell x))) :=
  show execPValid a s = _ from runOp_withCell hf hx _

theorem exec_pSymToStartFreq (sym : Nibble) :
    exec (.pSymToStartFreq a sym) s =
      .next (s.lock.answer .success (.startFreq (symStart x sym.toNat) (symFreq x sym.toNat))) :=
  show execPSymToStartFreq a sym s = _ from runOp_withCell hf hx _

theorem exec_pOffsetToSym_outside {offset : BitVec 16} (h : 32767 < offset.toNat) :
    exec (.pOffsetToSym a offset) s = .next (s.lock.failEntry .protocolViolation) :=
  show execPOffsetToSym a offset s = _ from (runOp_withCell hf hx _).trans (congrArg Reply.outcome (if_pos h))

theorem exec_pOffsetToSym {offset : BitVec 16} (h : offset.toNat ≤ 32767) :
    exec (.pOffsetToSym a offset) s =
      .next (s.lock.answer .success (.symStartFreq (BitVec.ofNat 4 (offsetSym x offset.toNat))
        (symStart x (offsetSym x offset.toNat)) (symFreq x (offsetSym x offset.toNat)))) :=
  show execPOffsetToSym a offset s = _ from
    (runOp_withCell hf hx _).trans (congrArg Reply.outcome (if_neg (Nat.not_lt.mpr h)))

theorem exec_pBlend (sym : Nibble) (speed : BitVec 3) :
    exec (.pBlend a sym speed) s =
      .next ((s.lock.setCell a (blend x sym.toNat speed)).answer .success .nothing) :=
  show execPBlend a sym speed s = _ from runOp_withCell hf hx _

theorem exec_pWrite {c : Cdf16} (hc : validCell c = true) :
    exec (.pWrite a c) s = .next ((s.lock.setCell a c).answer .success .nothing) :=
  show execPWrite a c s = _ from (runOp_withCell hf hx _).trans (congrArg Reply.outcome (if_pos hc))

theorem exec_pWrite_invalid {c : Cdf16} (hc : validCell c = false) :
    exec (.pWrite a c) s = .next (s.lock.failEntry .protocolViolation) :=
  show execPWrite a c s = _ from
    (runOp_withCell hf hx _).trans (congrArg Reply.outcome (if_neg (by simp [hc])))

end

section
variable {a b : BitVec 16} {x y : Cdf16} (hx : s.cell? a = some x) (hy : s.cell? b = some y)
include hx hy

theorem exec_pAverage_eq (w : BitVec 16) :
    exec (.pAverage a b w) s =
      (if 32768 < w.toNat then raise .protocolViolation s.lock
        else Reply.ok Returns.nothing (s.lock.setMix (average x y w.toNat))).outcome :=
  show execPAverage a b w s = _ from
    (runOp_withCell hf hx _).trans (congrArg Reply.outcome (withCell_some (s := s.lock) hy))

theorem exec_pAverage {w : BitVec 16} (hw : w.toNat ≤ 32768) :
    exec (.pAverage a b w) s = .next ((s.lock.setMix (average x y w.toNat)).answer .success .nothing) := by
  rw [exec_pAverage_eq hf hx hy, if_neg (by omega)]
  rfl

theorem exec_pAverage_overweight {w : BitVec 16} (hw : 32768 < w.toNat) :
    exec (.pAverage a b w) s = .next (s.lock.failEntry .protocolViolation) := by
  rw [exec_pAverage_eq hf hx hy, if_pos hw]
  rfl

end

/-- The first address of an average is that of no cell. -/
theorem exec_pAverage_noFirst {a : BitVec 16} (ha : 41887 < a.toNat) (b w : BitVec 16) :
    exec (.pAverage a b w) s = .next (s.lock.failEntry .protocolViolation) :=
  show execPAverage a b w s = _ from runOp_noCell hf ha _

/-- The second address of an average is that of no cell. -/
theorem exec_pAverage_noSecond {a : BitVec 16} (ha : 41887 < a.toNat) (b w : BitVec 16) :
    exec (.pAverage b a w) s = .next (s.lock.failEntry .protocolViolation) := by
  cases hb : s.cell? b with
  | none => exact exec_pAverage_noFirst hf ((s.cell?_eq_none b).mp hb) a w
  | some y =>
    exact show execPAverage b a w s = _ from (runOp_withCell hf hb _).trans
      (congrArg Reply.outcome (withCell_none (s := s.lock) ((s.lock.cell?_eq_none a).mpr ha)))

end

/-- Settles O28: every read is the body of its operation, and an offset is looked up by `offsetSym_spec`. -/
theorem cellReads : Obligations.CellReads := by
  intro s a sym offset hf
  refine ⟨fun x hx => ⟨exec_pCdf hf hx sym, ?pdf, exec_pMax hf hx, exec_pLogMax hf hx, exec_pRead hf hx,
    ⟨_, exec_pValid hf hx, validCell_iff⟩, ⟨_, exec_pSymToStartFreq hf hx sym, symFreq_eq⟩,
    exec_pOffsetToSym_outside hf hx, ?lookup, scaled_last x, fun h => scaled_of_total_ne_zero h⟩,
    s.cell?_eq_none a, ?noCell⟩
  case pdf =>
    have hzero : sym = 0 ↔ sym.toNat = 0 := BitVec.toNat_eq
    simp only [hzero]
    exact exec_pPdf hf hx sym
  case lookup =>
    intro hoff
    obtain ⟨hle, hat, hbefore⟩ := offsetSym_spec (x := x) (Nat.lt_succ_of_le hoff)
    have hsym : (BitVec.ofNat 4 (offsetSym x offset.toNat)).toNat = offsetSym x offset.toNat :=
      Nat.mod_eq_of_lt (by omega)
    have hrises : scaledBelow x (offsetSym x offset.toNat) < scaled x (offsetSym x offset.toNat) :=
      (scaledBelow_le_of_before hbefore).trans_lt hat
    refine ⟨BitVec.ofNat 4 (offsetSym x offset.toNat), ?_⟩
    rw [hsym, ← symFreq_eq hrises]
    exact ⟨hat, hbefore, exec_pOffsetToSym hf hx hoff⟩
  case noCell =>
    intro ha i hi
    simp only [List.mem_cons, List.not_mem_nil, or_false] at hi
    rcases hi with rfl | rfl | rfl | rfl | rfl | rfl | rfl | rfl
    · exact show execPCdf a sym s = _ from runOp_noCell hf ha _
    · exact show execPPdf a sym s = _ from runOp_noCell hf ha _
    · exact show execPMax a s = _ from runOp_noCell hf ha _
    · exact show execPLogMax a s = _ from runOp_noCell hf ha _
    · exact show execPRead a s = _ from runOp_noCell hf ha _
    · exact show execPValid a s = _ from runOp_noCell hf ha _
    · exact show execPSymToStartFreq a sym s = _ from runOp_noCell hf ha _
    · exact show execPOffsetToSym a offset s = _ from runOp_noCell hf ha _

/-! ### Writing a cell -/

/-- After a cell is written, its address reads as the cell written and every other address as before. -/
theorem State.cell?_setCell {s : State} (hcan : s.memoriesCanonical = true) {a : BitVec 16}
    (ha : a.toNat ≤ 41887) (c : Cdf16) (b : BitVec 16) :
    (s.setCell a c).cell? b = if b = a then some c else s.cell? b := by
  obtain ⟨-, -, -, ⟨hwf, -⟩, -⟩ := s.memoriesCanonical_iff.mp hcan
  have heq : b = a ↔ b.toNat = a.toNat := BitVec.toNat_eq
  simp only [heq]
  rcases State.setCell_cases a c s with ⟨hlt, hset⟩ | ⟨hge, hset⟩ <;> rw [hset] <;> unfold State.cell?
  · by_cases hb : b.toNat < Config.numPriors
    · rw [if_pos hb, if_pos hb, State.prior, State.setPrior_model, Memory.read_write hwf, State.prior]
      exact apply_ite some _ _ _
    · rw [if_neg hb, if_neg hb, if_neg (show b.toNat ≠ a.toNat by omega)]
      rfl
  · rw [Nat.le_antisymm ha hge]
    by_cases hb : b.toNat < Config.numPriors
    · rw [if_pos hb, if_pos hb, if_neg hb.ne]
      rfl
    · rw [if_neg hb, if_neg hb]
      split <;> rfl

/-- The address of a cell is at most that of `MIX` (R90). -/
theorem State.le_of_cell? {s : State} {a : BitVec 16} {x : Cdf16} (hx : s.cell? a = some x) : a.toNat ≤ 41887 :=
  Nat.le_of_not_lt fun h => by simp [(s.cell?_eq_none a).mpr h] at hx

/-- What an operation that writes the cell `c` at `a` leaves: that cell, every other cell as it was, and nothing else
of the state but the lock and the response. -/
theorem answer_setCell_spec {s : State} (hcan : s.memoriesCanonical = true) {a : BitVec 16} {x : Cdf16}
    (hx : s.cell? a = some x) (c : Cdf16) {t : State} (ht : t = (s.lock.setCell a c).answer .success .nothing) :
    t.cell? a = some c ∧ (∀ b, b ≠ a → t.cell? b = s.cell? b) ∧
      t = ({ s.lock with model := { s.model with priors := t.model.priors, mix := t.model.mix } } : State).answer
        .success .nothing := by
  have hread (b : BitVec 16) : t.cell? b = if b = a then some c else s.cell? b := by
    rw [ht]
    exact State.cell?_setCell (s := s.lock) hcan (State.le_of_cell? hx) c b
  refine ⟨by rw [hread, if_pos rfl], fun b hb => by rw [hread, if_neg hb], ?_⟩
  rcases State.setCell_cases a c s.lock with ⟨-, hset⟩ | ⟨-, hset⟩ <;> rw [ht, hset] <;> rfl

/-- Settles O29: the blended cell is written, and its counts are those of `cdf_blend`. -/
theorem blendWritesCell : Obligations.BlendWritesCell := by
  intro s a sym speed x hf hcan hx hv inc up biased
  obtain ⟨hwritten, hothers, hframe⟩ := answer_setCell_spec hcan hx (blend x sym.toNat speed) rfl
  have hup : raisedCount x sym.toNat (speedInc speed) = up := by
    unfold up inc
    rw [← speedInc_eq]
    rfl
  refine ⟨_, _, exec_pBlend hf hx sym speed, hwritten, fun i hi => ?counts, hothers, hframe⟩
  rw [cdf_blend hv sym speed hi, hup]
  rfl

/-- Settles O30: an average goes to `MIX` with the counts of `cdf_average`, and a write to its cell. -/
theorem averageAndWriteResult : Obligations.AverageAndWriteResult := by
  intro s hf hcan
  refine ⟨fun a b w x y hx hy => ⟨exec_pAverage_overweight hf hx hy, fun hw hvx hvy => ?average⟩,
    fun a x c hx => ⟨exec_pWrite_invalid hf hx, fun hc => ⟨_, exec_pWrite hf hx hc, answer_setCell_spec hcan hx c rfl⟩⟩,
    fun a b w sym speed c ha i hi => ?noCell⟩
  case average => exact ⟨_, exec_pAverage hf hx hy hw, fun i hi => cdf_average hvx hvy hw hi⟩
  case noCell =>
    simp only [List.mem_cons, List.not_mem_nil, or_false] at hi
    rcases hi with rfl | rfl | rfl | rfl
    · exact exec_pAverage_noFirst hf ha b w
    · exact exec_pAverage_noSecond hf ha b w
    · exact show execPWrite a c s = _ from runOp_noCell hf ha _
    · exact show execPBlend a sym speed s = _ from runOp_noCell hf ha _

/-! ### CDF2 cells -/

theorem validCdf2_iff {x : Cdf2} :
    validCdf2 x = true ↔ 0 < x[0].toNat ∧ x[0].toNat < x[1].toNat ∧ x[1].toNat ≤ 32767 := by
  simp only [validCdf2, Bool.and_eq_true, decide_eq_true_eq, and_assoc]
  rfl

/-- The count of false after a bit, before any decay (R226). -/
def raisedFalse (x : Cdf2) (bit : Bool) (inc : Nat) : Nat := if bit then x[0].toNat else x[0].toNat + inc

/-- The counts of a blend of a valid CDF2: none is truncated (R226). -/
theorem blend2_counts {x : Cdf2} (hv : validCdf2 x = true) (bit : Bool) (speed : BitVec 3) :
    (blend2 x bit speed)[0].toNat =
        (if x[1].toNat + speedInc speed < 32351 then raisedFalse x bit (speedInc speed)
          else decay (raisedFalse x bit (speedInc speed)) 0) ∧
      (blend2 x bit speed)[1].toNat =
        if x[1].toNat + speedInc speed < 32351 then x[1].toNat + speedInc speed
        else decay (x[1].toNat + speedInc speed) 1 := by
  have fits {v : Nat} (h : v < 65536) : (BitVec.ofNat 16 v).toNat = v := Nat.mod_eq_of_lt h
  have decay_fits {v i : Nat} (h : v < 65536) (hi : i < 2) : decay v i < 65536 := by
    unfold decay
    omega
  have htotal : x[1].toNat + speedInc speed < 65536 := by
    have := (validCdf2_iff.mp hv).2.2
    have := speedInc_le speed
    omega
  have hfalse : raisedFalse x bit (speedInc speed) < 65536 := by
    have := (validCdf2_iff.mp hv).2.1
    unfold raisedFalse
    split <;> omega
  by_cases hlimit : x[1].toNat + speedInc speed < 32351
  · have hblend : blend2 x bit speed =
        #v[BitVec.ofNat 16 (raisedFalse x bit (speedInc speed)), BitVec.ofNat 16 (x[1].toNat + speedInc speed)] :=
      if_neg (Nat.not_le.mpr hlimit)
    rw [if_pos hlimit, if_pos hlimit, hblend]
    exact ⟨fits hfalse, fits htotal⟩
  · have hblend : blend2 x bit speed =
        #v[BitVec.ofNat 16 (decay (raisedFalse x bit (speedInc speed)) 0),
          BitVec.ofNat 16 (decay (x[1].toNat + speedInc speed) 1)] :=
      if_pos (Nat.not_lt.mp hlimit)
    rw [if_neg hlimit, if_neg hlimit, hblend]
    exact ⟨fits (decay_fits hfalse (by omega)), fits (decay_fits htotal (by omega))⟩

theorem clamp8_eq (v : Nat) : clamp8 v = BitVec.ofNat 8 (max 1 (min 255 v)) := by
  unfold clamp8
  split
  · rw [max_eq_left (by omega)]
    rfl
  · split
    · rw [min_eq_left (by omega)]
      rfl
    · rw [min_eq_right (by omega), max_eq_right (by omega)]

/-- After a CDF2 is written, its index reads as the cell written and every other index as before. -/
theorem State.cdf2_setCdf2 {s : State} (hcan : s.memoriesCanonical = true) (a2 : Nibble) (c : Cdf2) (b2 : Nibble) :
    (s.setCdf2 a2 c).cdf2 b2 = if b2 = a2 then c else s.cdf2 b2 := by
  obtain ⟨-, -, -, ⟨-, hwf⟩, -⟩ := s.memoriesCanonical_iff.mp hcan
  rw [State.cdf2, State.setCdf2_model, Memory.read_write hwf]
  simp only [BitVec.toNat_eq]
  rfl

section
variable {s : State} (hf : s.ctl.failed = false)
include hf

theorem exec_p2Blend (a2 : Nibble) (bit : Bool) (speed : BitVec 3) :
    exec (.p2Blend a2 bit speed) s =
      .next ((s.lock.setCdf2 a2 (blend2 (s.cdf2 a2) bit speed)).answer .success .nothing) :=
  show execP2Blend a2 bit speed s = _ from runOp_legal hf rfl

theorem exec_p2Prob (a2 : Nibble) :
    exec (.p2Prob a2) s = .next (s.lock.answer .success (.prob (prob2 (s.cdf2 a2)))) :=
  show execP2Prob a2 s = _ from runOp_legal hf rfl

theorem exec_p2OffsetToSym_outside (a2 : Nibble) {offset : BitVec 16} (h : 32767 < offset.toNat) :
    exec (.p2OffsetToSym a2 offset) s = .next (s.lock.failEntry .protocolViolation) :=
  show execP2OffsetToSym a2 offset s = _ from (runOp_legal hf rfl).trans (congrArg Reply.outcome (if_pos h))

theorem exec_p2OffsetToSym_false (a2 : Nibble) {offset : BitVec 16} (h : offset.toNat ≤ 32767)
    (hlt : offset.toNat < split2 (s.cdf2 a2)) :
    exec (.p2OffsetToSym a2 offset) s =
      .next (s.lock.answer .success (.bitStartFreq false 1 (BitVec.ofNat 16 (split2 (s.cdf2 a2) - 1)))) :=
  show execP2OffsetToSym a2 offset s = _ from
    (runOp_legal hf rfl).trans (congrArg Reply.outcome ((if_neg (Nat.not_lt.mpr h)).trans (if_pos hlt)))

theorem exec_p2OffsetToSym_true (a2 : Nibble) {offset : BitVec 16} (h : offset.toNat ≤ 32767)
    (hle : split2 (s.cdf2 a2) ≤ offset.toNat) :
    exec (.p2OffsetToSym a2 offset) s =
      .next (s.lock.answer .success (.bitStartFreq true (BitVec.ofNat 16 (split2 (s.cdf2 a2) + 1))
        (BitVec.ofNat 16 (32768 - split2 (s.cdf2 a2) - 1)))) :=
  show execP2OffsetToSym a2 offset s = _ from
    (runOp_legal hf rfl).trans
      (congrArg Reply.outcome ((if_neg (Nat.not_lt.mpr h)).trans (if_neg (Nat.not_lt.mpr hle))))

end

/-- Settles O31: each operation is its body, with the counts of `blend2_counts`. -/
theorem cdf2Operations : Obligations.Cdf2Operations := by
  intro s a2 bit speed offset hf hcan hv f n inc f' n' split
  have hread (b2 : Nibble) :
      ((s.lock.setCdf2 a2 (blend2 (s.cdf2 a2) bit speed)).answer .success .nothing).cdf2 b2 =
        if b2 = a2 then blend2 (s.cdf2 a2) bit speed else s.cdf2 b2 :=
    State.cdf2_setCdf2 (s := s.lock) hcan a2 _ b2
  have hinc : speedInc speed = inc := speedInc_eq speed
  obtain ⟨hfalse, htotal⟩ := blend2_counts hv bit speed
  rw [hinc] at hfalse htotal
  refine ⟨⟨_, exec_p2Blend hf a2 bit speed, ?false, ?total, fun b2 hb => ?others, rfl⟩, ?prob,
    exec_p2OffsetToSym_outside hf a2, exec_p2OffsetToSym_false hf a2, exec_p2OffsetToSym_true hf a2⟩
  case false => rw [hread, if_pos rfl]; exact hfalse
  case total => rw [hread, if_pos rfl]; exact htotal
  case others => rw [hread, if_neg hb]
  case prob => rw [exec_p2Prob hf, prob2, clamp8_eq]; rfl

end Sys2Proof.Machine
end

section
/-! SUPPORT. An operation in parts: a response already given, by which the state alone differs, changes nothing in what
the coders and the nibble protocol do next, and none of them is refused or faults. So a nibble that is put or got in
several operations ends as one done in a single one. -/

namespace Sys2Proof.Machine

/-! ### Replies that are alike -/

/-- Two replies that end in the same way, the states differing only in the answer already given, which a failure
replaces. Neither is refused or faults. -/
inductive Reply.Alike {α : Type} (r : Result) (ret : Returns) : Reply α → Reply α → Prop
  | ok (a : α) (s : State) : Alike r ret (.ok a (s.answer r ret)) (.ok a s)
  | wait (w : Wait) (s : State) : Alike r ret (.wait w (s.answer r ret)) (.wait w s)
  | raise (c : Cause) (s : State) : Alike r ret (raise c s) (raise c s)

section
variable {α β : Type} {r : Result} {ret : Returns} {s : State}

theorem Reply.Alike.moved {a : α} {s t : State} (h : t = s.answer r ret) :
    (Reply.ok a t).Alike r ret (.ok a s) := h ▸ .ok a s

theorem Reply.Alike.bind {x y : Reply α} {k : α → State → Reply β} (h : x.Alike r ret y)
    (hk : ∀ a s, (k a (s.answer r ret)).Alike r ret (k a s)) : (x.bind k).Alike r ret (y.bind k) := by
  cases h with
  | ok a s => exact hk a s
  | wait w s => exact .wait w s
  | raise c s => exact .raise c s

theorem Reply.Alike.map {x y : Reply α} {f : α → β} (h : x.Alike r ret y) : (x.map f).Alike r ret (y.map f) :=
  h.bind fun a s => .ok (f a) s

theorem Reply.Alike.ite {c : Prop} [Decidable c] {x x' y y' : Reply α} (h : x.Alike r ret y)
    (h' : x'.Alike r ret y') : (if c then x else x').Alike r ret (if c then y else y') := by
  split
  · exact h
  · exact h'

/-- The answer of the operation replaces the one given before. -/
theorem Reply.Alike.outcome_eq {x y : Reply Returns} (h : x.Alike r ret y) : x.outcome = y.outcome := by
  cases h <;> rfl

/-- An operation on a piece that is alike to one answers a next state: the piece's success, or its end. -/
theorem Reply.Alike.outcome_cases {x y : Reply α} (h : x.Alike r ret y) (f : α → Returns) :
    ∃ u, (y.map f).outcome = .next u ∧
      (u.ctl.result ≠ .success →
        ∀ (k : α → State → Reply β) (g : β → Returns), ((y.bind k).map g).outcome = .next u) ∧
      (u.ctl.result = .success → ∃ a v, y = .ok a v ∧ u = v.answer .success (f a)) := by
  cases h with
  | ok a v => exact ⟨_, rfl, fun h => absurd rfl h, fun _ => ⟨a, v, rfl, rfl⟩⟩
  | wait w v => exact ⟨_, rfl, fun _ _ _ => rfl, fun h => by cases w <;> cases h⟩
  | raise c v => exact ⟨_, rfl, fun _ _ _ => rfl, fun h => by cases h⟩

/-! ### ANS1

The terms below go through the checks of each operation in their order, one `ite` for each. -/

theorem ansEncode_alike (bit : Bool) (p : Byte) (s : State) :
    (ansEncode bit p (s.answer r ret)).Alike r ret (ansEncode bit p s) :=
  .ite (.raise _ s) (.ite (.ite (.raise _ s) (.moved rfl)) (.moved rfl))

theorem ansFlush_alike (s : State) : (ansFlush (s.answer r ret)).Alike r ret (ansFlush s) :=
  .ite (.raise _ s) (.moved rfl)

theorem ansAdvance_alike (limit x1 : Nat) (s : State) :
    (ansAdvance limit x1 (s.answer r ret)).Alike r ret (ansAdvance limit x1 s) :=
  .ite (.ite (.raise _ s) (.moved rfl)) (.moved rfl)

theorem chunkEncode_alike (n : Nat) (s : State) :
    (chunkEncode n (s.answer r ret)).Alike r ret (chunkEncode n s) := by
  induction n generalizing s with
  | zero => exact .ok _ s
  | succ n ih => exact (ansEncode_alike _ _ s).bind fun _ u => ih u

theorem chunkFlush_alike (s : State) : (chunkFlush (s.answer r ret)).Alike r ret (chunkFlush s) :=
  .ite (.ok _ s) (.ite (.wait _ s)
    (((chunkEncode_alike _ { s with ans1 := s.ans1.encodeInit }).bind fun _ u => ansFlush_alike u).bind
      fun _ _ => .moved rfl))

theorem chunkPutBit_alike (bit : Bool) (p : Byte) (s : State) :
    (chunkPutBit bit p (s.answer r ret)).Alike r ret (chunkPutBit bit p s) :=
  .ite (.raise _ s) (.ite (.raise _ s) ((Reply.Alike.ite (chunkFlush_alike s) (.ok _ s)).bind fun _ _ => .moved rfl))

theorem chunkHeader_alike (s : State) : (chunkHeader (s.answer r ret)).Alike r ret (chunkHeader s) :=
  .ite (.ok _ s) (.ite (.wait _ s) (.ite (.raise _ (s.pop .input 2)) (.moved rfl)))

theorem chunkPayload_alike (s : State) : (chunkPayload (s.answer r ret)).Alike r ret (chunkPayload s) :=
  .ite (.ok _ s) (.ite (.wait _ s) (.moved rfl))

theorem chunkGetLoop_alike (p : Byte) (n : Nat) (s : State) :
    (chunkGetLoop p n (s.answer r ret)).Alike r ret (chunkGetLoop p n s) := by
  induction n generalizing s with
  | zero => exact .wait _ s
  | succ n ih =>
    exact (chunkHeader_alike s).bind fun _ u => (chunkPayload_alike u).bind fun _ v =>
      .ite (ih { v with ans1 := { v.ans1 with phase := .needHdr } }) (ansAdvance_alike _ _ v).map

theorem chunkGetBit_alike (p : Byte) (s : State) :
    (chunkGetBit p (s.answer r ret)).Alike r ret (chunkGetBit p s) :=
  .ite (.raise _ s) (chunkGetLoop_alike p _ s)

/-! ### ANS2 -/

theorem reversePutSym_answer (k : Bool) (start freq : Nat) (s : State) :
    reversePutSym k start freq (s.answer r ret) = (reversePutSym k start freq s).answer r ret := by
  unfold reversePutSym
  dsimp only [State.answer_ans2]
  split <;> rfl

theorem flushSyms_answer (n : Nat) (s : State) : flushSyms n (s.answer r ret) = (flushSyms n s).answer r ret := by
  induction n generalizing s with
  | zero => rfl
  | succ n ih =>
    rw [flushSyms, reversePutSym_answer, ih]
    rfl

theorem batchFlushed_answer (s : State) : (s.answer r ret).batchFlushed = s.batchFlushed.answer r ret := by
  have hsyms : flushSyms s.ans2.symCount.toNat { s.answer r ret with ans2 := s.ans2.startStates } = _ :=
    flushSyms_answer _ { s with ans2 := s.ans2.startStates }
  simp only [State.batchFlushed, State.answer_ans2, hsyms]
  rfl

theorem symFlush_alike (s : State) : (symFlush (s.answer r ret)).Alike r ret (symFlush s) :=
  .ite (.ok _ s) (.ite (.wait _ s) (.moved (congrArg (fun u : State => { u with ctl := { u.ctl with
    encFinished := u.ctl.encFinished || decide (s.ans2.symCount.toNat < Config.batchSyms) } })
      (batchFlushed_answer s))))

theorem symPut_alike (start freq : BitVec 16) (s : State) :
    (symPut start freq (s.answer r ret)).Alike r ret (symPut start freq s) :=
  .ite (.raise _ s) (.ite (.raise _ s) (.ite (.raise _ s)
    ((Reply.Alike.ite (symFlush_alike s) (.ok _ s)).bind fun _ _ => .moved rfl)))

theorem symPutBit_alike (bit : Bool) (p : Byte) (s : State) :
    (symPutBit bit p (s.answer r ret)).Alike r ret (symPutBit bit p s) :=
  .ite (.raise _ s) (symPut_alike _ _ s)

theorem fill_answer (n : Nat) (s : State) : (s.answer r ret).fill n = (s.fill n).answer r ret := rfl

theorem fillLoop_alike (n : Nat) (s : State) : (fillLoop n (s.answer r ret)).Alike r ret (fillLoop n s) := by
  induction n generalizing s with
  | zero => exact .ok _ s
  | succ n ih =>
    by_cases ha : s.queues.popAvail .input = 0
    · rw [fillLoop_waits n.succ_ne_zero ha, fillLoop_waits (s := s.answer r ret) n.succ_ne_zero ha]
      exact .wait _ s
    · rw [fillLoop_succ ha, fillLoop_succ (s := s.answer r ret) ha, fill_answer]
      exact ih (s.fill 1)

theorem symOffset_alike (s : State) : (symOffset (s.answer r ret)).Alike r ret (symOffset s) :=
  (fillLoop_alike _ s).bind fun _ u => .ok _ u

theorem symAdvance_alike (start freq : BitVec 16) (s : State) :
    (symAdvance start freq (s.answer r ret)).Alike r ret (symAdvance start freq s) :=
  .ite (.raise _ s) (.ite (.raise _ s) (.ite (.moved rfl) (.raise _ s)))

theorem symGetBit_alike (p : Byte) (s : State) : (symGetBit p (s.answer r ret)).Alike r ret (symGetBit p s) :=
  .ite (.raise _ s) ((symOffset_alike s).bind fun _ u => (symAdvance_alike _ _ u).map)

/-! ### The protocol -/

theorem putBit_alike (bit : Bool) (p : Byte) (s : State) :
    (putBit bit p (s.answer r ret)).Alike r ret (putBit bit p s) :=
  .ite (symPutBit_alike bit p s) (chunkPutBit_alike bit p s)

theorem getBit_alike (p : Byte) (s : State) : (getBit p (s.answer r ret)).Alike r ret (getBit p s) :=
  .ite (symGetBit_alike p s) (chunkGetBit_alike p s)

theorem withDivisor_alike {x y : Reply α} (d : Int) (s : State) (h : x.Alike r ret y) :
    (withDivisor d (s.answer r ret) x).Alike r ret (withDivisor d s y) :=
  .ite (.raise _ s) h

theorem putTree_alike (x : Cdf16) (nibble : Nibble) (n : Nat) (s : State) :
    (putTree x nibble n (s.answer r ret)).Alike r ret (putTree x nibble n s) := by
  induction n generalizing s with
  | zero => exact .moved rfl
  | succ n ih =>
    exact withDivisor_alike _ s ((putBit_alike _ _ s).bind fun _ u =>
      ih { u with bt := u.bt.decideBit x n (nibble.getLsbD n) })

theorem getTree_alike (x : Cdf16) (n : Nat) (s : State) :
    (getTree x n (s.answer r ret)).Alike r ret (getTree x n s) := by
  induction n generalizing s with
  | zero => exact .moved rfl
  | succ n ih =>
    exact withDivisor_alike _ s ((getBit_alike _ s).bind fun bit u => ih { u with bt := u.bt.decideBit x n bit })

theorem getNibble_alike (x : Cdf16) (s : State) : (getNibble x (s.answer r ret)).Alike r ret (getNibble x s) :=
  .ite
    ((symOffset_alike s).bind fun _ u => withDivisor_alike _ u (.ite (.raise _ u) (symAdvance_alike _ _ u).map))
    (getTree_alike x _ { s with bt := s.bt.resume x })

end

end Sys2Proof.Machine
end

section
/-! SUPPORT. The nibble protocol: its bits are the bits of the configured engine (R241, R242), and its nibbles in
`DIRECT16` mode are the symbols of the intervals of a cell (R245, R246, R249). -/

namespace Sys2Proof.Machine

/-! ### The operations -/

section
variable {s : State}

section
variable (h : s.encoding)
include h

theorem exec_tPutBit (bit : Bool) (p : Byte) :
    exec (.tPutBit bit p) s = ((putBit bit p s.lock).map fun _ => Returns.nothing).outcome :=
  show execTPutBit bit p s = _ from runOp_legal h.1 (by simp [Legal.allows, h.2])

theorem exec_tPutNibble {a : BitVec 16} {x : Cdf16} (hx : s.cell? a = some x) (n : Nibble) :
    exec (.tPutNibble a n) s = ((putNibble x n s.lock).map fun _ => Returns.nothing).outcome :=
  show execTPutNibble a n s = _ from
    (runOp_legal h.1 (by simp [Legal.allows, h.2])).trans (congrArg Reply.outcome (withCell_some (s := s.lock) hx))

end

section
variable (h : s.decoding)
include h

theorem exec_tGetBit (p : Byte) : exec (.tGetBit p) s = ((getBit p s.lock).map Returns.bit).outcome :=
  show execTGetBit p s = _ from runOp_legal (legal := .decode) h.1 h.2

theorem exec_tGetNibble {a : BitVec 16} {x : Cdf16} (hx : s.cell? a = some x) :
    exec (.tGetNibble a) s = ((getNibble x s.lock).map Returns.nibble).outcome :=
  show execTGetNibble a s = _ from
    (runOp_legal (legal := .decode) h.1 h.2).trans (congrArg Reply.outcome (withCell_some (s := s.lock) hx))

end

end

/-! ### Bits -/

/-- A locking operation runs its body on the locked state only. -/
theorem runOp_congr {legal : Legal} {body body' : State → Reply Returns} {s : State}
    (h : body s.lock = body' s.lock) :
    runOp legal true body s = runOp legal true body' s := by
  simp only [runOp, if_true, h]

section
variable {s : State} {bit : Bool} {p : Byte}

theorem putBit_ans2 (h : s.engineAns2 = true) : putBit bit p s = symPutBit bit p s := if_pos h

theorem putBit_ans1 (h : s.engineAns2 = false) : putBit bit p s = chunkPutBit bit p s := if_neg (by simp [h])

theorem getBit_ans2 (h : s.engineAns2 = true) : getBit p s = symGetBit p s := if_pos h

theorem getBit_ans1 (h : s.engineAns2 = false) : getBit p s = chunkGetBit p s := if_neg (by simp [h])

theorem exec_tPutBit_eq_engine (s : State) (bit : Bool) (p : Byte) :
    exec (.tPutBit bit p) s = exec (if s.engineAns2 then .nPutBit bit p else .bChunkPutBit bit p) s := by
  cases h : s.engineAns2
  · refine show execTPutBit bit p s = execBChunkPutBit bit p s from runOp_congr ?_
    exact congrArg (Reply.map _) (putBit_ans1 (s := s.lock) h)
  · refine show execTPutBit bit p s = execNPutBit bit p s from runOp_congr ?_
    exact congrArg (Reply.map _) (putBit_ans2 (s := s.lock) h)

theorem exec_tGetBit_eq_engine (s : State) (p : Byte) :
    exec (.tGetBit p) s = exec (if s.engineAns2 then .nGetBit p else .bChunkGetBit p) s := by
  cases h : s.engineAns2
  · refine show execTGetBit p s = execBChunkGetBit p s from runOp_congr ?_
    exact congrArg (Reply.map _) (getBit_ans1 (s := s.lock) h)
  · refine show execTGetBit p s = execNGetBit p s from runOp_congr ?_
    exact congrArg (Reply.map _) (getBit_ans2 (s := s.lock) h)

/-! ### Buffered bits -/

/-- The symbol of a bit (R183). -/
def BitCell.interval (c : BitCell) : SymCell := ⟨bitStart c.bit c.p, bitFreq c.bit c.p⟩

/-- ANS1 with bits added at the end of its buffer (R151). -/
def Ans1.bufferBits (bits : List BitCell) (a : Ans1) : Ans1 :=
  { a with
    buf := Memory.writeList BitCell.zero a.buf a.count.toNat bits
    count := a.count + BitVec.ofNat 16 bits.length }

/-- ANS2 with the symbols of bits added at the end of its buffer (R171, R183). -/
def Ans2.bufferBits (bits : List BitCell) (a : Ans2) : Ans2 :=
  { a with
    symbuf := Memory.writeList SymCell.zero a.symbuf a.symCount.toNat (bits.map BitCell.interval)
    symCount := a.symCount + BitVec.ofNat 32 bits.length }

/-- Bits added at the end of the buffer of the configured engine (R241). -/
def State.bufferBits (bits : List BitCell) (s : State) : State :=
  if s.engineAns2 then { s with ans2 := s.ans2.bufferBits bits } else { s with ans1 := s.ans1.bufferBits bits }

/-- The encoder takes bits, and the configured engine has room for `n` of them. -/
def State.hasRoom (n : Nat) (s : State) : Prop :=
  s.ctl.encFinished = false ∧
    if s.engineAns2 then s.ans2.symCount.toNat + n ≤ 16384 else s.ans1.count.toNat + n ≤ 16384

theorem State.bufferBits_ans1 (h : s.engineAns2 = false) (bits : List BitCell) :
    s.bufferBits bits = { s with ans1 := s.ans1.bufferBits bits } := if_neg (by simp [h])

theorem State.bufferBits_ans2 (h : s.engineAns2 = true) (bits : List BitCell) :
    s.bufferBits bits = { s with ans2 := s.ans2.bufferBits bits } := if_pos h

theorem State.hasRoom_ans1 (h : s.engineAns2 = false) (n : Nat) :
    s.hasRoom n ↔ s.ctl.encFinished = false ∧ s.ans1.count.toNat + n ≤ 16384 := by simp [State.hasRoom, h]

theorem State.hasRoom_ans2 (h : s.engineAns2 = true) (n : Nat) :
    s.hasRoom n ↔ s.ctl.encFinished = false ∧ s.ans2.symCount.toNat + n ≤ 16384 := by simp [State.hasRoom, h]

/-- A bit for which there is room is buffered in the configured engine. -/
theorem putBit_room (hp : p ≠ 0) (h : s.hasRoom 1) : putBit bit p s = .ok () (s.bufferBits [⟨bit, p⟩]) := by
  cases he : s.engineAns2
  · obtain ⟨hopen, hroom⟩ := (s.hasRoom_ans1 he 1).mp h
    rw [putBit_ans1 he, chunkPutBit_room hp hopen hroom, State.bufferBits_ans1 he]
    rfl
  · obtain ⟨hopen, hroom⟩ := (s.hasRoom_ans2 he 1).mp h
    rw [putBit_ans2 he, symPutBit_eq hp, symPut_room hopen (bitInterval hp).1 (bitInterval_le hp) hroom,
      State.bufferBits_ans2 he]
    rfl

end

/-- Settles O34: with room the bit is buffered, and with no bytes missing it is the one whose interval owns the
offset. -/
theorem protocolBits : Obligations.ProtocolBits := by
  intro s bit p
  refine ⟨exec_tPutBit_eq_engine s bit p, exec_tGetBit_eq_engine s p, ?put, ?get⟩
  case put =>
    intro henc hp hopen hroom
    have hput : putBit bit p s.lock = _ := putBit_room hp ⟨hopen, hroom⟩
    rw [exec_tPutBit henc, hput]
    refine ⟨_, rfl, rfl, ?_⟩
    cases he : s.engineAns2
    · rw [State.bufferBits_ans1 (s := s.lock) he]
      rfl
    · rw [State.bufferBits_ans2 (s := s.lock) he]
      rfl
  case get =>
    intro hdec hp he hboot hpull
    have hbit : decide (p.toNat * 128 ≤ s.lock.ans2.offset) = true ↔ _ := decide_eq_true_iff
    rw [exec_tGetBit hdec, getBit_ans2 (s := s.lock) he, (symGetBit_ready (s := s.lock) hp hboot hpull hbit).2]
    exact ⟨_, _, rfl, rfl⟩

/-! ### Nibbles in `DIRECT16` mode -/

section
variable {s : State} {x : Cdf16}

/-- A division by something else than zero goes on (R12). -/
theorem withDivisor_ne_zero {α : Type} {d : Int} (h : d ≠ 0) (s : State) (k : Reply α) : withDivisor d s k = k :=
  if_neg h

theorem withDivisor_zero {α : Type} (s : State) (k : Reply α) : withDivisor 0 s k = raise .zeroFrequency s :=
  if_pos rfl

section
variable (hd : s.direct16 = true)
include hd

theorem putNibble_direct (hx : cdf x 15 ≠ 0) (n : Nibble) :
    putNibble x n s = symPut (symStart x n.toNat) (symFreq x n.toNat) s :=
  (if_pos hd).trans (withDivisor_ne_zero (Int.natCast_ne_zero.mpr hx) s _)

theorem putNibble_noTotal (hx : cdf x 15 = 0) (n : Nibble) : putNibble x n s = raise .zeroFrequency s := by
  rw [putNibble, if_pos hd, cdfTotal, hx]
  exact withDivisor_zero s _

/-- The bytes needed are taken first (R179). -/
theorem getNibble_filled {u : State} (hfill : symFill s = .ok () u) (hdone : u.ans2.bytesWanted = 0)
    (hu : u.direct16 = true) : getNibble x s = getNibble x u := by
  rw [getNibble, getNibble, if_pos hd, if_pos hu, symOffset, symOffset, hfill, symFill_done hdone]

theorem getNibble_waits {u : State} (hfill : symFill s = .wait .input u) : getNibble x s = .wait .input u := by
  rw [getNibble, if_pos hd, symOffset, hfill]
  rfl

section
variable (hboot : s.ans2.bootNeed = 0) (hpull : s.ans2.pullNeed = 0)
include hboot hpull

/-- With no bytes needed the offset is there. -/
theorem getNibble_ready :
    getNibble x s = withDivisor (cdf x 15) s
      (if s.ans2.offset < (symStart x (offsetSym x s.ans2.offset)).toNat then raise .invalidOffset s
        else (symAdvance (symStart x (offsetSym x s.ans2.offset)) (symFreq x (offsetSym x s.ans2.offset)) s).map
          fun _ => BitVec.ofNat 4 (offsetSym x s.ans2.offset)) := by
  rw [getNibble, if_pos hd, symOffset, symFill_done (Ans2.bytesWanted_eq_zero_iff.mpr ⟨hboot, hpull⟩)]
  rfl

theorem getNibble_noTotal (hx : cdf x 15 = 0) : getNibble x s = raise .zeroFrequency s := by
  rw [getNibble_ready hd hboot hpull, hx]
  exact withDivisor_zero s _

section
variable (hx : cdf x 15 ≠ 0) {n : Nibble} (hsym : offsetSym x s.ans2.offset = n.toNat)
include hx hsym

/-- The nibble that owns the offset is used as a symbol (R246). -/
theorem getNibble_owned (hlo : (symStart x n.toNat).toNat ≤ s.ans2.offset) :
    getNibble x s = (symAdvance (symStart x n.toNat) (symFreq x n.toNat) s).map fun _ => n := by
  rw [getNibble_ready hd hboot hpull, withDivisor_ne_zero (Int.natCast_ne_zero.mpr hx), hsym,
    if_neg (Nat.not_lt.mpr hlo), BitVec.ofNat_toNat, BitVec.setWidth_eq]

theorem getNibble_unowned (hlo : s.ans2.offset < (symStart x n.toNat).toNat) :
    getNibble x s = raise .invalidOffset s := by
  rw [getNibble_ready hd hboot hpull, withDivisor_ne_zero (Int.natCast_ne_zero.mpr hx), hsym, if_pos hlo]

end

end

end

end

/-- The parts that a bit or the fill of a decoder writes. -/
def Part.writtenByBit : Part → Bool
  | .ans1 | .ans2 | .queues => true
  | _ => false

section
variable {s t : State}

/-- Coding a bit leaves the control registers, the cells and the tree registers as they are. -/
theorem Moves.bit_frame (h : Moves Part.writtenByBit s t) : t.ctl = s.ctl ∧ t.model = s.model ∧ t.bt = s.bt :=
  ⟨by rw [h.ctl_eq, h.encFinished_eq rfl], h.model_eq rfl, h.bt_eq rfl⟩

theorem State.cell?_congr (h : t.model = s.model) (a : BitVec 16) : t.cell? a = s.cell? a := by
  simp only [State.cell?, State.prior, h]

theorem State.decoding_congr (h : t.ctl.failed = s.ctl.failed) (hcfg : t.ctl.cfg = s.ctl.cfg) :
    t.decoding ↔ s.decoding := by
  simp only [State.decoding, State.isDecode, h, hcfg]

theorem State.encoding_congr (h : t.ctl.failed = s.ctl.failed) (hcfg : t.ctl.cfg = s.ctl.cfg) :
    t.encoding ↔ s.encoding := by
  simp only [State.encoding, State.isDecode, h, hcfg]

theorem State.direct16_congr (hcfg : t.ctl.cfg = s.ctl.cfg) : t.direct16 = s.direct16 := by
  simp only [State.direct16, hcfg]

end

/-- `r` is the state in which an operation begun in `s` goes on, with the tree registers `b`, after a part that left `v`
and was answered with `ret`: in the session of `s`, with its cells, and locked. -/
theorem State.resumed {s v r : State} {t b : BitTree} {ret : Returns}
    (hm : Moves Part.writtenByBit { s.lock with bt := t } v) (hr : r = { v.answer .success ret with bt := b }) :
    (r.encoding ↔ s.encoding) ∧ (r.decoding ↔ s.decoding) ∧ r.direct16 = s.direct16 ∧
      (∀ a, r.cell? a = s.cell? a) ∧ r.lock = r := by
  obtain ⟨hctl, hmodel, -⟩ := hm.bit_frame
  subst hr
  have hfailed : v.ctl.failed = s.ctl.failed := by rw [hctl]; rfl
  have hcfg : v.ctl.cfg = s.ctl.cfg := by rw [hctl]; rfl
  have hlocked : v.ctl.cfgLocked = true := by rw [hctl]; rfl
  exact ⟨State.encoding_congr hfailed hcfg, State.decoding_congr hfailed hcfg, State.direct16_congr hcfg,
    State.cell?_congr hmodel, State.lock_of_locked hlocked⟩

/-- Getting a nibble where bytes are needed is getting it after the fill. -/
theorem exec_tGetNibble_filled {s u : State} {a : BitVec 16} {x : Cdf16} (hdec : s.decoding) (hd : s.direct16 = true)
    (hx : s.cell? a = some x) (hfill : symFill s.lock = .ok () u) (hdone : u.ans2.bytesWanted = 0) :
    exec (.tGetNibble a) s = exec (.tGetNibble a) (u.answer .success .nothing) := by
  have hm : (symFill s.lock).Ends (Moves Part.writtenByBit s.lock) := symFill_ends rfl rfl
  rw [hfill] at hm
  obtain ⟨-, hdec', hd', hx', hlock⟩ :=
    State.resumed (s := s) (t := s.bt) (r := u.answer .success .nothing) (b := u.bt) hm rfl
  rw [exec_tGetNibble hdec hx, getNibble_filled (s := s.lock) hd hfill hdone (hd'.trans hd),
    exec_tGetNibble (hdec'.mpr hdec) ((hx' a).trans hx), hlock]
  exact (getNibble_alike x u).map.outcome_eq.symm

/-- Settles O35: the nibble is the symbol of `intervalOwnsOffsets`; the count below a symbol is no symbol's offset. -/
theorem directNibbles : Obligations.DirectNibbles := by
  intro s a n x hd hx
  refine ⟨?put, ?putNoTotal, ?getNoTotal, ?putRoom, ?get, ?getEmpty, ?getFill⟩
  case put =>
    intro henc htotal
    rw [exec_tPutNibble henc hx, putNibble_direct (s := s.lock) hd htotal, exec_nEncPut henc]
  case putNoTotal =>
    intro henc htotal
    rw [exec_tPutNibble henc hx, putNibble_noTotal (s := s.lock) hd htotal]
    rfl
  case getNoTotal =>
    intro hdec hboot hpull htotal
    rw [exec_tGetNibble hdec hx, getNibble_noTotal (s := s.lock) hd hboot hpull htotal]
    rfl
  case putRoom =>
    intro henc hopen hroom hv hpdf
    obtain ⟨-, hfreq, -, -, hle, -⟩ := intervalOwnsOffsets x n hv hpdf
    have hnonzero : symFreq x n.toNat ≠ 0 := fun h0 => by rw [h0] at hfreq; cases hfreq
    rw [exec_tPutNibble henc hx, putNibble_direct (s := s.lock) hd (cdf_total_pos hv).ne',
      symPut_room (s := s.lock) hopen hnonzero hle hroom]
    rfl
  case get =>
    intro hdec hboot hpull hv hpdf
    obtain ⟨hstart, hfreq, hsum, -, hle, howns⟩ := intervalOwnsOffsets x n hv hpdf
    have hnonzero : symFreq x n.toNat ≠ 0 := fun h0 => by rw [h0] at hfreq; cases hfreq
    have htotal : cdf x 15 ≠ 0 := (cdf_total_pos hv).ne'
    refine ⟨fun hlo hhi => ?owned, fun hoff => ?unowned⟩
    case owned =>
      have hused := symAdvance_owned (s := s.lock) hboot hpull hnonzero hlo hhi hle
      rw [exec_nDecAdvanceSym hdec, hused, exec_tGetNibble hdec hx,
        getNibble_owned (s := s.lock) hd hboot hpull htotal (howns _ hlo hhi) hlo, hused]
      exact ⟨_, rfl, rfl, rfl⟩
    case unowned =>
      have hsym : offsetSym x (s.ans2.stateA.toNat % 32768) = n.toNat := offsetSym_eq (by omega)
        (fun j hj => hoff ▸ scaled_le_scaledBelow hv hj n.isLt) (by omega)
      rw [exec_tGetNibble hdec hx, getNibble_unowned (s := s.lock) hd hboot hpull htotal hsym]
      · rfl
      · show s.ans2.stateA.toNat % 32768 < _
        omega
  case getEmpty =>
    intro hdec hneed ha
    have hwant : s.ans2.bytesWanted ≠ 0 := fun h0 => by
      obtain ⟨hboot, hpull⟩ := Ans2.bytesWanted_eq_zero_iff.mp h0
      exact hneed.elim (· hboot) (· hpull)
    rw [exec_tGetNibble hdec hx, getNibble_waits (s := s.lock) hd (fillLoop_waits (s := s.lock) hwant ha)]
    rfl
  case getFill =>
    intro hdec hneed
    rw [exec_nDecFill hdec]
    rcases symFill_cases s.lock with ⟨u, hfill, hdone⟩ | ⟨u, hfill⟩
    · obtain ⟨hboot, hpull⟩ := Ans2.bytesWanted_eq_zero_iff.mp hdone
      rw [hfill]
      exact ⟨_, rfl, .inl ⟨rfl, hboot, hpull, exec_tGetNibble_filled hdec hd hx hfill hdone⟩⟩
    · rw [exec_tGetNibble hdec hx, getNibble_waits (s := s.lock) hd hfill, hfill]
      exact ⟨_, rfl, .inr ⟨rfl, rfl⟩⟩

end Sys2Proof.Machine
end

section
/-! SUPPORT. Nibbles in `BITTREE` mode (R240, R243 to R246): what one level of the tree does, from the start or resumed,
and that four levels buffer the four bits of a nibble, each with the share of its residual range. -/

namespace Sys2Proof.Machine

/-! ### The probability of a level -/

/-- Where the differences of R240 exist its quotient is the probability. -/
theorem bitProb_eq {lo mid hi : Nat} (hmid : lo ≤ mid) (hhi : lo ≤ hi) :
    bitProb lo mid hi = BitVec.ofNat 8 (max 1 (min 255 ((mid - lo) * 256 / (hi - lo)))) := by
  rw [bitProb, if_neg (by omega), clamp8_eq]

theorem clamp8_ne_zero (v : Nat) : clamp8 v ≠ 0 := by
  rw [clamp8_eq, ne_eq, BitVec.toNat_eq, BitVec.toNat_ofNat, show (0 : Byte).toNat = 0 from rfl]
  omega

section
variable {x : Cdf16} {t : BitTree}

theorem BitTree.prob_ne_zero (k : Nat) : t.prob x k ≠ 0 := clamp8_ne_zero _

theorem BitTree.prob_eq_share (hrange : t.lo.toNat < t.hi.toNat) (hcut : t.lo.toNat ≤ t.cut x) :
    t.prob x t.k.toNat = t.share x := bitProb_eq hcut hrange.le

theorem BitTree.decideBit_eq_narrowed (bit : Bool) : t.decideBit x t.k.toNat bit = t.narrowed x bit := by
  have hsym : BitVec.ofNat 4 (t.loSym.toNat + 2 ^ t.k.toNat) = t.loSym + BitVec.ofNat 4 (2 ^ t.k.toNat) := by
    rw [BitVec.ofNat_add, BitVec.ofNat_toNat, BitVec.setWidth_eq]
  rw [BitTree.decideBit, BitTree.narrowed, hsym]
  rfl

theorem BitTree.begun_active : (t.begun x).active = true := by
  unfold BitTree.begun
  split
  · assumption
  · rfl

theorem BitTree.begun_of_active (h : t.active = true) : t.begun x = t := if_pos h

/-- The level below one that is not the last. -/
theorem BitTree.narrowed_k (bit : Bool) (h : 0 < t.k.toNat) : (t.narrowed x bit).k.toNat + 1 = t.k.toNat := by
  have hk := t.k.isLt
  show (BitVec.ofNat 2 (t.k.toNat - 1)).toNat + 1 = _
  rw [BitVec.toNat_ofNat, Nat.mod_eq_of_lt (by omega), Nat.sub_add_cancel h]

end

/-! ### One level -/

section
variable {s : State} {x : Cdf16}

theorem putNibble_tree (hd : s.direct16 = false) (n : Nibble) :
    putNibble x n s = putTree x n ((s.bt.begun x).k.toNat + 1) { s with bt := s.bt.begun x } := if_neg (by simp [hd])

theorem getNibble_tree (hd : s.direct16 = false) :
    getNibble x s = getTree x ((s.bt.begun x).k.toNat + 1) { s with bt := s.bt.begun x } := if_neg (by simp [hd])

theorem putTree_empty (h : s.bt.hi = s.bt.lo) (n : Nibble) (k : Nat) :
    putTree x n (k + 1) s = raise .zeroFrequency s := if_pos (by rw [BitTree.width, h, Int.sub_self])

theorem getTree_empty (h : s.bt.hi = s.bt.lo) (k : Nat) :
    getTree x (k + 1) s = raise .zeroFrequency s := if_pos (by rw [BitTree.width, h, Int.sub_self])

theorem BitTree.width_ne_zero {t : BitTree} (h : t.lo.toNat < t.hi.toNat) : t.width ≠ 0 := by
  unfold BitTree.width
  omega

theorem putTree_succ (h : s.bt.lo.toNat < s.bt.hi.toNat) (n : Nibble) (k : Nat) :
    putTree x n (k + 1) s = (putBit (n.getLsbD k) (s.bt.prob x k) s).bind fun _ u =>
      putTree x n k { u with bt := u.bt.decideBit x k (n.getLsbD k) } := if_neg (BitTree.width_ne_zero h)

theorem getTree_succ (h : s.bt.lo.toNat < s.bt.hi.toNat) (k : Nat) :
    getTree x (k + 1) s = (getBit (s.bt.prob x k) s).bind fun bit u =>
      getTree x k { u with bt := u.bt.decideBit x k bit } := if_neg (BitTree.width_ne_zero h)

end

section
variable {s : State} {a : BitVec 16} {x : Cdf16} (hd : s.direct16 = false) (hx : s.cell? a = some x)
include hd hx

theorem exec_tPutNibble_tree (henc : s.encoding) (n : Nibble) :
    exec (.tPutNibble a n) s =
      ((putTree x n ((s.bt.begun x).k.toNat + 1) { s.lock with bt := s.bt.begun x }).map fun _ =>
        Returns.nothing).outcome := by
  rw [exec_tPutNibble henc hx, putNibble_tree (s := s.lock) hd]
  rfl

theorem exec_tGetNibble_tree (hdec : s.decoding) :
    exec (.tGetNibble a) s =
      ((getTree x ((s.bt.begun x).k.toNat + 1) { s.lock with bt := s.bt.begun x }).map Returns.nibble).outcome := by
  rw [exec_tGetNibble hdec hx, getNibble_tree (s := s.lock) hd]
  rfl

variable {v : State} {t b : BitTree} {k : Nat} (hm : Moves Part.writtenByBit { s.lock with bt := t } v)
  (hactive : b.active = true) (hk : b.k.toNat + 1 = k)
include hm hactive hk

/-- A put resumed after the bit of a level, answered for itself, is the rest of the put (R243). -/
theorem exec_tPutNibble_resumed (henc : s.encoding) (n : Nibble) (ret : Returns) :
    exec (.tPutNibble a n) { v.answer .success ret with bt := b } =
      ((putTree x n k { v with bt := b }).map fun _ => Returns.nothing).outcome := by
  obtain ⟨henc', -, hd', hx', hlock⟩ := State.resumed hm (b := b) (ret := ret) rfl
  rw [exec_tPutNibble_tree (hd'.trans hd) ((hx' a).trans hx) (henc'.mpr henc), hlock,
    BitTree.begun_of_active hactive, hk]
  exact (putTree_alike x n k { v with bt := b }).map.outcome_eq

/-- A get resumed after the bit of a level, answered for itself, is the rest of the get (R244). -/
theorem exec_tGetNibble_resumed (hdec : s.decoding) (ret : Returns) :
    exec (.tGetNibble a) { v.answer .success ret with bt := b } =
      ((getTree x k { v with bt := b }).map Returns.nibble).outcome := by
  obtain ⟨-, hdec', hd', hx', hlock⟩ := State.resumed hm (b := b) (ret := ret) rfl
  rw [exec_tGetNibble_tree (hd'.trans hd) ((hx' a).trans hx) (hdec'.mpr hdec), hlock,
    BitTree.begun_of_active hactive, hk]
  exact (getTree_alike x k { v with bt := b }).map.outcome_eq

end

/-- The registers move to the half that the bit of the level leaves. -/
theorem Moves.decideBit_eq {s v : State} {b : BitTree} (hm : Moves Part.writtenByBit { s with bt := b } v) {x : Cdf16}
    {bit : Bool} : v.bt.decideBit x b.k.toNat bit = b.narrowed x bit := by
  obtain ⟨-, -, hbt⟩ := hm.bit_frame
  rw [hbt]
  exact BitTree.decideBit_eq_narrowed bit

section
variable {s : State} {a : BitVec 16} {x : Cdf16} (hd : s.direct16 = false) (hx : s.cell? a = some x)
  {b : BitTree} (hb : s.bt.begun x = b)
include hd hx hb

/-- One level of a put: the bit operation with the share of the cut, and then the rest of the put. -/
theorem exec_tPutNibble_level (henc : s.encoding) (n : Nibble) (hrange : b.lo.toNat < b.hi.toNat)
    (hcut : b.lo.toNat ≤ b.cut x) :
    ∃ u, exec (.tPutBit (n.getLsbD b.k.toNat) (b.share x)) { s with bt := b } = .next u ∧
      (u.ctl.result ≠ .success → exec (.tPutNibble a n) s = .next u) ∧
      (u.ctl.result = .success → 0 < b.k.toNat →
        exec (.tPutNibble a n) s = exec (.tPutNibble a n) { u with bt := b.narrowed x (n.getLsbD b.k.toNat) }) ∧
      (u.ctl.result = .success → b.k.toNat = 0 →
        exec (.tPutNibble a n) s =
          .next { u with bt := { b.narrowed x (n.getLsbD b.k.toNat) with active := false } }) := by
  have hactive : b.active = true := hb ▸ BitTree.begun_active
  have hput : exec (.tPutNibble a n) s = _ := exec_tPutNibble_tree hd hx henc n
  rw [hb, putTree_succ (s := { s.lock with bt := b }) hrange, BitTree.prob_eq_share hrange hcut] at hput
  obtain ⟨u, hu, hends, hok⟩ := (putBit_alike (r := .success) (ret := .nothing) (n.getLsbD b.k.toNat) (b.share x)
    { s.lock with bt := b }).outcome_cases (β := Unit) fun _ => .nothing
  have hrest (h : u.ctl.result = .success) :
      ∃ v, Moves Part.writtenByBit { s.lock with bt := b } v ∧ u = v.answer .success .nothing ∧
        exec (.tPutNibble a n) s =
          ((putTree x n b.k.toNat { v with bt := b.narrowed x (n.getLsbD b.k.toNat) }).map fun _ =>
            Returns.nothing).outcome := by
    obtain ⟨_, v, hv, huv⟩ := hok h
    have hm : (putBit _ _ _).Ends (Moves Part.writtenByBit { s.lock with bt := b }) :=
      putBit_ends (s := { s.lock with bt := b }) rfl rfl rfl henc.2 (n.getLsbD b.k.toNat) (b.share x)
    rw [hv] at hm
    rw [hput, hv, ← hm.decideBit_eq]
    exact ⟨v, hm, huv, rfl⟩
  refine ⟨u, (exec_tPutBit (s := { s with bt := b }) henc _ _).trans hu, fun h => hput.trans (hends h _ _),
    fun h hk => ?goesOn, fun h hk => ?completes⟩
  case goesOn =>
    obtain ⟨v, hm, rfl, hnibble⟩ := hrest h
    exact hnibble.trans (exec_tPutNibble_resumed (b := b.narrowed x _) hd hx hm hactive
      (BitTree.narrowed_k _ hk) henc n .nothing).symm
  case completes =>
    obtain ⟨v, -, rfl, hnibble⟩ := hrest h
    rw [hnibble, hk]
    rfl

/-- One level of a get: the bit operation with the share of the cut, and then the rest of the get. -/
theorem exec_tGetNibble_level (hdec : s.decoding) (hrange : b.lo.toNat < b.hi.toNat) (hcut : b.lo.toNat ≤ b.cut x) :
    ∃ u, exec (.tGetBit (b.share x)) { s with bt := b } = .next u ∧
      (u.ctl.result ≠ .success → exec (.tGetNibble a) s = .next u) ∧
      (u.ctl.result = .success → ∃ bit, u.port.response = ⟨.success, .bit bit⟩ ∧
        (0 < b.k.toNat → exec (.tGetNibble a) s = exec (.tGetNibble a) { u with bt := b.narrowed x bit }) ∧
        (b.k.toNat = 0 →
          exec (.tGetNibble a) s =
            .next (({ u with bt := { b.narrowed x bit with active := false } } : State).answer .success
              (.nibble (b.narrowed x bit).nib)))) := by
  have hactive : b.active = true := hb ▸ BitTree.begun_active
  have hget : exec (.tGetNibble a) s = _ := exec_tGetNibble_tree hd hx hdec
  rw [hb, getTree_succ (s := { s.lock with bt := b }) hrange, BitTree.prob_eq_share hrange hcut] at hget
  obtain ⟨u, hu, hends, hok⟩ := (getBit_alike (r := .success) (ret := .nothing) (b.share x)
    { s.lock with bt := b }).outcome_cases (β := Nibble) .bit
  refine ⟨u, (exec_tGetBit (s := { s with bt := b }) hdec _).trans hu, fun h => hget.trans (hends h _ _),
    fun h => ?_⟩
  obtain ⟨bit, v, hv, rfl⟩ := hok h
  have hm : (getBit _ _).Ends (Moves Part.writtenByBit { s.lock with bt := b }) :=
    getBit_ends (s := { s.lock with bt := b }) rfl rfl rfl hdec.2 (b.share x)
  rw [hv] at hm
  have hrest : exec (.tGetNibble a) s =
      ((getTree x b.k.toNat { v with bt := b.narrowed x bit }).map Returns.nibble).outcome := by
    rw [hget, hv, ← hm.decideBit_eq]
    rfl
  refine ⟨bit, rfl, fun hk => ?goesOn, fun hk => ?completes⟩
  case goesOn =>
    exact hrest.trans (exec_tGetNibble_resumed (b := b.narrowed x bit) hd hx hm hactive
      (BitTree.narrowed_k _ hk) hdec (.bit bit)).symm
  case completes =>
    rw [hrest, hk]
    rfl

end

end Sys2Proof.Machine
end

section
/-! SUPPORT. A whole nibble put in `BITTREE` mode (R243, R245): with room, the four bits end in the buffer of the
configured engine, most significant first, each with the share of its residual range. -/

namespace Sys2Proof.Machine

/-! ### Buffering several bits -/

theorem Ans1.bufferBits_cons {a : Ans1} (c : BitCell) (bits : List BitCell) (h : a.count.toNat < 65535) :
    a.bufferBits (c :: bits) = (a.bufferBits [c]).bufferBits bits := by
  have hnext : (a.count + 1#16).toNat = a.count.toNat + 1 := by bv_omega
  have hcount : BitVec.ofNat 16 (bits.length + 1) = 1#16 + BitVec.ofNat 16 bits.length := by
    rw [Nat.add_comm, BitVec.ofNat_add]
  simp only [Ans1.bufferBits, List.length_cons, List.length_nil, Nat.zero_add, Memory.writeList, hnext, hcount,
    BitVec.add_assoc]

theorem Ans2.bufferBits_cons {a : Ans2} (c : BitCell) (bits : List BitCell) (h : a.symCount.toNat < 65535) :
    a.bufferBits (c :: bits) = (a.bufferBits [c]).bufferBits bits := by
  have hnext : (a.symCount + 1#32).toNat = a.symCount.toNat + 1 := by bv_omega
  have hcount : BitVec.ofNat 32 (bits.length + 1) = 1#32 + BitVec.ofNat 32 bits.length := by
    rw [Nat.add_comm, BitVec.ofNat_add]
  simp only [Ans2.bufferBits, List.map_cons, List.map_nil, List.length_cons, List.length_nil, Nat.zero_add,
    Memory.writeList, hnext, hcount, BitVec.add_assoc]

theorem BitCell.interval_ofNat {p : Nat} (hp : p < 256) (bit : Bool) :
    BitCell.interval ⟨bit, BitVec.ofNat 8 p⟩ =
      if bit then ⟨BitVec.ofNat 16 (p * 128), BitVec.ofNat 16 ((256 - p) * 128)⟩
      else ⟨0, BitVec.ofNat 16 (p * 128)⟩ := by
  have htoNat : (BitVec.ofNat 8 p).toNat = p := Nat.mod_eq_of_lt hp
  cases bit <;> simp only [BitCell.interval, bitStart, bitFreq, htoNat] <;> rfl

section
variable {s : State}

theorem State.bufferBits_nil (s : State) : s.bufferBits [] = s := by
  have hcount : s.ans1.count + BitVec.ofNat 16 0 = s.ans1.count := BitVec.add_zero _
  have hsyms : s.ans2.symCount + BitVec.ofNat 32 0 = s.ans2.symCount := BitVec.add_zero _
  unfold State.bufferBits
  split
  · simp only [Ans2.bufferBits, List.map_nil, List.length_nil, Memory.writeList, hsyms]
  · simp only [Ans1.bufferBits, List.length_nil, Memory.writeList, hcount]

theorem State.bufferBits_cons {n : Nat} (h : s.hasRoom (n + 1)) (c : BitCell) (bits : List BitCell) :
    s.bufferBits (c :: bits) = (s.bufferBits [c]).bufferBits bits := by
  cases he : s.engineAns2
  · obtain ⟨-, hroom⟩ := (s.hasRoom_ans1 he _).mp h
    rw [State.bufferBits_ans1 he, State.bufferBits_ans1 he, Ans1.bufferBits_cons _ _ (by omega)]
    exact (State.bufferBits_ans1 (s := { s with ans1 := s.ans1.bufferBits [c] }) he bits).symm
  · obtain ⟨-, hroom⟩ := (s.hasRoom_ans2 he _).mp h
    rw [State.bufferBits_ans2 he, State.bufferBits_ans2 he, Ans2.bufferBits_cons _ _ (by omega)]
    exact (State.bufferBits_ans2 (s := { s with ans2 := s.ans2.bufferBits [c] }) he bits).symm

/-- A bit buffered takes one place. -/
theorem State.hasRoom_bufferBits {n : Nat} (h : s.hasRoom (n + 1)) (c : BitCell) : (s.bufferBits [c]).hasRoom n := by
  cases he : s.engineAns2
  · obtain ⟨hopen, hroom⟩ := (s.hasRoom_ans1 he _).mp h
    rw [State.bufferBits_ans1 he]
    refine (State.hasRoom_ans1 (s := { s with ans1 := s.ans1.bufferBits [c] }) he n).mpr ⟨hopen, ?_⟩
    show (s.ans1.count + 1#16).toNat + n ≤ 16384
    bv_omega
  · obtain ⟨hopen, hroom⟩ := (s.hasRoom_ans2 he _).mp h
    rw [State.bufferBits_ans2 he]
    refine (State.hasRoom_ans2 (s := { s with ans2 := s.ans2.bufferBits [c] }) he n).mpr ⟨hopen, ?_⟩
    show (s.ans2.symCount + 1#32).toNat + n ≤ 16384
    bv_omega

theorem State.hasRoom.one {n : Nat} (h : s.hasRoom (n + 1)) : s.hasRoom 1 := by
  cases he : s.engineAns2
  · obtain ⟨hopen, hroom⟩ := (s.hasRoom_ans1 he _).mp h
    exact (s.hasRoom_ans1 he 1).mpr ⟨hopen, by omega⟩
  · obtain ⟨hopen, hroom⟩ := (s.hasRoom_ans2 he _).mp h
    exact (s.hasRoom_ans2 he 1).mpr ⟨hopen, by omega⟩

@[simp] theorem State.bufferBits_bt (s : State) (bits : List BitCell) : (s.bufferBits bits).bt = s.bt := by
  unfold State.bufferBits
  split <;> rfl

/-- The tree registers are no part of a buffer. -/
theorem State.bufferBits_withTree (s : State) (bits : List BitCell) (b : BitTree) :
    { s with bt := b }.bufferBits bits = { s.bufferBits bits with bt := b } := by
  cases he : s.engineAns2
  · rw [State.bufferBits_ans1 he, State.bufferBits_ans1 (s := { s with bt := b }) he]
  · rw [State.bufferBits_ans2 he, State.bufferBits_ans2 (s := { s with bt := b }) he]

end

/-! ### The residual range of a level -/

/-- The least symbol that begins with the bits of the nibble from bit `m` up. -/
def treeBase (nibble : Nibble) (m : Nat) : Nat := nibble.toNat / 2 ^ m * 2 ^ m

/-- The count below a symbol, 0 below the first. -/
def cdfBelow (x : Cdf16) (i : Nat) : Nat := if i = 0 then 0 else cdf x (i - 1)

/-- Bit `k` of the nibble with the share of false in its residual range (R240, R243). -/
def levelBit (x : Cdf16) (nibble : Nibble) (k : Nat) : BitCell :=
  let base := treeBase nibble (k + 1)
  let lo := cdfBelow x base
  ⟨nibble.getLsbD k, BitVec.ofNat 8 (max 1 (min 255
    ((cdf x (base + 2 ^ k - 1) - lo) * 256 / (cdf x (base + 2 ^ (k + 1) - 1) - lo))))⟩

/-- The bits of the nibble below bit `m`, most significant first. -/
def treeBits (x : Cdf16) (nibble : Nibble) : Nat → List BitCell
  | 0 => []
  | m + 1 => levelBit x nibble m :: treeBits x nibble m

@[simp] theorem length_treeBits (x : Cdf16) (nibble : Nibble) (m : Nat) : (treeBits x nibble m).length = m := by
  induction m with
  | zero => rfl
  | succ m ih => rw [treeBits, List.length_cons, ih]

theorem getElem?_treeBits {x : Cdf16} {nibble : Nibble} {m k : Nat} (h : k < m) :
    (treeBits x nibble m)[m - 1 - k]? = some (levelBit x nibble k) := by
  induction m with
  | zero => omega
  | succ m ih =>
    rcases Nat.lt_succ_iff_lt_or_eq.mp h with hlt | rfl
    · rw [treeBits, show m + 1 - 1 - k = m - 1 - k + 1 by omega, List.getElem?_cons_succ]
      exact ih hlt
    · simp [treeBits]

theorem treeBase_le (nibble : Nibble) {m : Nat} (hm : m ≤ 4) : treeBase nibble m + 2 ^ m ≤ 16 := by
  have hlt := nibble.isLt
  unfold treeBase
  interval_cases m <;> omega

/-- The bit of a level chooses the half (R243). -/
theorem treeBase_eq (nibble : Nibble) (k : Nat) :
    treeBase nibble k = treeBase nibble (k + 1) + if nibble.getLsbD k then 2 ^ k else 0 := by
  have hbit : nibble.getLsbD k = decide (nibble.toNat / 2 ^ k % 2 = 1) := Nat.testBit_eq_decide_div_mod_eq
  have hhalf : nibble.toNat / 2 ^ (k + 1) = nibble.toNat / 2 ^ k / 2 := by rw [Nat.pow_succ, Nat.div_div_eq_div_mul]
  rw [treeBase, treeBase, hhalf, hbit]
  obtain ⟨q, hq | hq⟩ := Nat.even_or_odd' (nibble.toNat / 2 ^ k)
  · rw [hq, Nat.mul_div_cancel_left q two_pos, if_neg (by simp)]
    ring
  · rw [hq, show (2 * q + 1) / 2 = q by omega, if_pos (by simp [Nat.add_mod])]
    ring

section
variable {x : Cdf16} (hv : validCell x = true)
include hv

theorem cdf_strictMono {i j : Nat} (hij : i < j) (hj : j < 16) : cdf x i < cdf x j := by
  obtain ⟨-, hrise, -⟩ := validCell_iff.mp hv
  exact (cdf_mono hv (Nat.le_sub_one_of_lt hij) (by omega)).trans_lt (hrise j (by omega) (by omega))

theorem cdfBelow_le {i j : Nat} (hij : i ≤ j) (hj : j < 16) : cdfBelow x i ≤ cdf x j := by
  unfold cdfBelow
  split
  · exact Nat.zero_le _
  · exact cdf_mono hv (by omega) hj

end

/-- The registers when the bits of the nibble from bit `m` up are decided: the symbols left and the counts that bound
them (R243). -/
structure BitTree.AtLevel (x : Cdf16) (nibble : Nibble) (m : Nat) (t : BitTree) : Prop where
  loSym : t.loSym.toNat = treeBase nibble m
  lo    : t.lo.toNat = cdfBelow x (treeBase nibble m)
  hi    : t.hi.toNat = cdf x (treeBase nibble m + 2 ^ m - 1)

theorem BitTree.atLevel_begun {x : Cdf16} {t : BitTree} (nibble : Nibble) (h : t.active = false) :
    (t.begun x).AtLevel x nibble 4 ∧ (t.begun x).k = 3 := by
  have hbase : treeBase nibble 4 = 0 := by
    have := treeBase_le nibble (m := 4) (Nat.le_refl 4)
    omega
  have hbegun : t.begun x = .start x := if_neg (by simp [h])
  rw [hbegun]
  refine ⟨⟨?_, ?_, ?_⟩, rfl⟩ <;> rw [hbase]
  · rfl
  · rfl
  · exact (cdf_eq_toNat x (by omega)).symm

namespace BitTree.AtLevel

variable {x : Cdf16} {nibble : Nibble} {k : Nat} {t : BitTree} (h : t.AtLevel x nibble (k + 1))
include h

theorem mid_eq : t.mid x k = cdf x (treeBase nibble (k + 1) + 2 ^ k - 1) := by rw [BitTree.mid, h.loSym]

section
variable (hv : validCell x = true) (hk : k < 4)
include hv hk

/-- The cut of a level lies in its range (R240). -/
theorem cut_bounds : t.lo.toNat ≤ t.mid x k ∧ t.mid x k < t.hi.toNat := by
  have hle := treeBase_le nibble (m := k + 1) hk
  have hpos : 0 < 2 ^ k := Nat.two_pow_pos k
  have hdouble : 2 ^ (k + 1) = 2 ^ k + 2 ^ k := Nat.two_pow_succ k
  rw [h.mid_eq, h.lo, h.hi]
  exact ⟨cdfBelow_le hv (by omega) (by omega), cdf_strictMono hv (by omega) (by omega)⟩

theorem prob_eq : t.prob x k = (levelBit x nibble k).p := by
  obtain ⟨hcut, hhi⟩ := h.cut_bounds hv hk
  rw [BitTree.prob, bitProb_eq hcut (hcut.trans hhi.le), h.mid_eq, h.lo, h.hi]
  rfl

end

theorem decideBit (hk : k < 4) : (t.decideBit x k (nibble.getLsbD k)).AtLevel x nibble k := by
  have hle := treeBase_le nibble (m := k + 1) hk
  have hpos : 0 < 2 ^ k := Nat.two_pow_pos k
  have hdouble : 2 ^ (k + 1) = 2 ^ k + 2 ^ k := Nat.two_pow_succ k
  have hbase := treeBase_eq nibble k
  have hmid : (BitVec.ofNat 16 (t.mid x k)).toNat = cdf x (treeBase nibble (k + 1) + 2 ^ k - 1) := by
    rw [h.mid_eq, cdf_eq_toNat x (by omega), BitVec.ofNat_toNat, BitVec.setWidth_eq]
  cases hbit : nibble.getLsbD k
  · rw [hbit] at hbase
    have hsame : treeBase nibble k = treeBase nibble (k + 1) := hbase
    exact ⟨h.loSym.trans hsame.symm, h.lo.trans (by rw [hsame]), hmid.trans (by rw [hsame])⟩
  · rw [hbit, if_pos rfl] at hbase
    refine ⟨?_, hmid.trans ?_, h.hi.trans ?_⟩
    · show (BitVec.ofNat 4 (t.loSym.toNat + 2 ^ k)).toNat = _
      rw [h.loSym, hbase, BitVec.toNat_ofNat, Nat.mod_eq_of_lt (by omega)]
    · rw [cdfBelow, if_neg (by omega), hbase]
    · rw [hbase, hdouble, Nat.add_assoc]

end BitTree.AtLevel

/-! ### A whole nibble -/

/-- With room the levels left buffer the bits left (R243). -/
theorem putTree_room {x : Cdf16} (hv : validCell x = true) {nibble : Nibble} {m : Nat} (hm : m ≤ 4) {s : State}
    (hroom : s.hasRoom m) (hlevel : s.bt.AtLevel x nibble m) :
    ∃ b, b.active = false ∧
      putTree x nibble m s = .ok () { s.bufferBits (treeBits x nibble m) with bt := b } := by
  induction m generalizing s with
  | zero =>
    refine ⟨{ s.bt with active := false }, rfl, ?_⟩
    rw [treeBits, State.bufferBits_nil]
    rfl
  | succ k ih =>
    obtain ⟨hcut, hhi⟩ := hlevel.cut_bounds hv hm
    have hput : putBit (nibble.getLsbD k) (s.bt.prob x k) s = .ok () (s.bufferBits [levelBit x nibble k]) := by
      rw [putBit_room (BitTree.prob_ne_zero k) hroom.one, hlevel.prob_eq hv hm]
      rfl
    obtain ⟨b, hb, hrest⟩ := ih (s := { s.bufferBits [levelBit x nibble k] with
      bt := s.bt.decideBit x k (nibble.getLsbD k) }) (by omega) (State.hasRoom_bufferBits hroom _) (hlevel.decideBit hm)
    rw [State.bufferBits_withTree (s.bufferBits [_]), ← State.bufferBits_cons hroom] at hrest
    refine ⟨b, hb, ?_⟩
    rw [putTree_succ (hcut.trans_lt hhi), hput, treeBits, ← hrest, Reply.bind, State.bufferBits_bt]

/-- With room a nibble put from the start is its four bits in the buffer of the engine (R245). -/
theorem exec_tPutNibble_whole {s : State} {a : BitVec 16} {x : Cdf16} (n : Nibble) (henc : s.encoding)
    (hd : s.direct16 = false) (hx : s.cell? a = some x) (hv : validCell x = true) (hidle : s.bt.active = false)
    (hroom : s.hasRoom 4) :
    ∃ b, b.active = false ∧
      exec (.tPutNibble a n) s =
        .next (({ s.lock.bufferBits (treeBits x n 4) with bt := b } : State).answer .success .nothing) := by
  obtain ⟨hlevel, hk⟩ := BitTree.atLevel_begun (x := x) n hidle
  obtain ⟨b, hb, hput⟩ := putTree_room hv (Nat.le_refl 4) (s := { s.lock with bt := s.bt.begun x }) hroom hlevel
  refine ⟨b, hb, ?_⟩
  rw [State.bufferBits_withTree] at hput
  rw [exec_tPutNibble_tree hd hx henc, hk, show (3 : BitVec 2).toNat + 1 = 4 from rfl, hput]
  rfl

/-- Settles O36: a whole put is four levels of `putTree_room`, and a level is one bit and the rest of the nibble. -/
theorem bitTreeNibbles : Obligations.BitTreeNibbles := by
  refine ⟨?putAns1, ?putAns2, ?putLevel, ?getLevel⟩
  case putAns1 =>
    intro s a n x henc hcan hd he hx hv hidle hopen hroom
    obtain ⟨-, ⟨hbuf, -⟩, -⟩ := s.memoriesCanonical_iff.mp hcan
    obtain ⟨b, hb, hput⟩ :=
      exec_tPutNibble_whole n henc hd hx hv hidle ((s.hasRoom_ans1 he 4).mpr ⟨hopen, hroom⟩)
    rw [State.bufferBits_ans1 (s := s.lock) he] at hput
    refine ⟨_, hput, rfl, hb, fun k hk => ?cells, fun i hi => ?others⟩
    case cells =>
      refine (Memory.read_writeList hbuf s.ans1.count.toNat _ (treeBits x n 4)).trans ?_
      rw [if_pos (Nat.le_add_right _ _), Nat.add_sub_cancel_left, getElem?_treeBits (m := 4) hk]
      rfl
    case others =>
      exact Memory.read_writeList_of_outside hbuf (by rwa [length_treeBits])
  case putAns2 =>
    intro s a n x henc hcan hd he hx hv hidle hopen hroom
    obtain ⟨-, -, hbuf, -⟩ := s.memoriesCanonical_iff.mp hcan
    obtain ⟨b, hb, hput⟩ :=
      exec_tPutNibble_whole n henc hd hx hv hidle ((s.hasRoom_ans2 he 4).mpr ⟨hopen, hroom⟩)
    rw [State.bufferBits_ans2 (s := s.lock) he] at hput
    refine ⟨_, hput, rfl, hb, fun k hk => ?cells, fun i hi => ?others⟩
    case cells =>
      refine (Memory.read_writeList hbuf s.ans2.symCount.toNat _ ((treeBits x n 4).map BitCell.interval)).trans ?_
      rw [if_pos (Nat.le_add_right _ _), Nat.add_sub_cancel_left, List.getElem?_map, getElem?_treeBits (m := 4) hk]
      exact BitCell.interval_ofNat (by omega) _
    case others =>
      exact Memory.read_writeList_of_outside hbuf (by rwa [List.length_map, length_treeBits])
  case putLevel =>
    intro s a n x henc hd hx b k
    refine ⟨fun hempty => ?empty, exec_tPutNibble_level hd hx rfl henc n⟩
    case empty =>
      rw [exec_tPutNibble_tree hd hx henc, putTree_empty (s := { s.lock with bt := s.bt.begun x }) hempty]
      rfl
  case getLevel =>
    intro s a x hdec hd hx b k
    refine ⟨fun hempty => ?empty, exec_tGetNibble_level hd hx rfl hdec⟩
    case empty =>
      rw [exec_tGetNibble_tree hd hx hdec, getTree_empty (s := { s.lock with bt := s.bt.begun x }) hempty]
      rfl

end Sys2Proof.Machine
end

section
/-! SUPPORT. A codec step that suspends (R261, R350): only the coder of its nibble waits, and it has moved nothing but
the engines, the queues and the tree registers; what the step does with a coded nibble never waits. -/

namespace Sys2Proof.Machine

/-! ### What the coder moves -/

/-- The parts that coding a nibble moves before its cell is blended (R262). -/
def Part.writtenByCoder : Part → Bool
  | .ans1 | .ans2 | .queues | .bitTree => true
  | _ => false

/-- `t` has the codec, the bookkeeping, the priors, the CDF2 cells, the control registers and the port of `s`. -/
def State.keepsCodec (s t : State) : Prop :=
  t.codec = s.codec ∧ t.ctx = s.ctx ∧ t.model.priors = s.model.priors ∧ t.model.cdf2s = s.model.cdf2s ∧
    t.ctl = s.ctl ∧ t.port = s.port

theorem Moves.coder_frame {s t : State} (h : Moves Part.writtenByCoder s t) :
    t.ctl = s.ctl ∧ t.codec = s.codec ∧ t.ctx = s.ctx ∧ t.model = s.model ∧ t.port = s.port :=
  ⟨by rw [h.ctl_eq, h.encFinished_eq rfl], h.codec_eq rfl, h.ctx_eq rfl, h.model_eq rfl, h.port_eq⟩

theorem Moves.keepsCodec {s t : State} (h : Moves Part.writtenByCoder s t) : s.keepsCodec t := by
  obtain ⟨hctl, hcodec, hctx, hmodel, hport⟩ := h.coder_frame
  exact ⟨hcodec, hctx, by rw [hmodel], by rw [hmodel], hctl, hport⟩

theorem codeAgainst_coderMoves (x : Cdf16) (want : Nibble) (s : State) :
    (codeAgainst x want s).Ends (Moves Part.writtenByCoder s) := codeAgainst_ends ⟨rfl, rfl, rfl, rfl⟩ x want

/-! ### Replies that suspend in a given state -/

/-- Where the reply suspends it leaves a state of `P`. -/
def Reply.WaitsIn {α : Type} (P : State → Prop) : Reply α → Prop
  | .wait _ s => P s
  | _ => True

section
variable {α β : Type} {P : State → Prop} {s : State}

theorem raise_waitsIn (c : Cause) (s : State) : (raise c s : Reply α).WaitsIn P := trivial

theorem Reply.Ends.waitsIn {x : Reply α} (h : x.Ends P) : x.WaitsIn P := by
  cases x with
  | wait w t => exact h
  | _ => trivial

theorem Reply.WaitsIn.bind {x : Reply α} {k : α → State → Reply β} (h : x.WaitsIn P)
    (hk : ∀ a u, (k a u).WaitsIn P) : (x.bind k).WaitsIn P := by
  cases x with
  | ok a u => exact hk a u
  | wait w t => exact h
  | _ => trivial

theorem Reply.WaitsIn.ite {c : Prop} [Decidable c] {x y : Reply α} (hx : x.WaitsIn P) (hy : y.WaitsIn P) :
    (if c then x else y).WaitsIn P := by
  split
  · exact hx
  · exact hy

/-! ### What follows a coded nibble never waits -/

theorem applyRow_waitsIn (t : NibbleTable) (v : Nibble) (s : State) : (applyRow t v s).WaitsIn P := by
  unfold applyRow
  split
  · exact .ite trivial trivial
  · trivial
  · trivial

theorem complete_waitsIn (u : IntUser) (v : BitVec 32) (s : State) : (u.complete v s).WaitsIn P := by
  cases u with
  | copyCount => trivial
  | literalLen => exact .ite (raise_waitsIn _ s) trivial
  | dictField f => trivial
  | mapCount mi => exact .ite (raise_waitsIn _ s) (.ite trivial (.ite trivial trivial))

theorem mantissaNibble_waitsIn (u : IntUser) (ld lr : BitVec 4) (dsf : BitVec 32) (n : Nibble) (s : State) :
    (mantissaNibble u ld lr dsf n s).WaitsIn P := .ite (complete_waitsIn u _ s) trivial

theorem distanceNibble_waitsIn (ld lr : BitVec 4) (dsf : BitVec 32) (n : Nibble) (s : State) :
    (distanceNibble ld lr dsf n s).WaitsIn P := .ite (.ite (raise_waitsIn _ s) trivial) trivial

/-! ### The codec steps -/

theorem codeAgainst_waitsIn (x : Cdf16) (want : Nibble) (s : State) :
    (codeAgainst x want s).WaitsIn s.keepsCodec :=
  ((codeAgainst_coderMoves x want s).mono fun _ h => h.keepsCodec).waitsIn

theorem codeNibble_waitsIn (a : Nat) (speed : BitVec 3) (want : Nibble) (s : State) :
    (codeNibble a speed want s).WaitsIn s.keepsCodec := (codeAgainst_waitsIn _ _ s).bind fun _ _ => trivial

theorem tableStep_waitsIn (t : NibbleTable) (a : Nat) (speed : BitVec 3) (want : Nibble) (s : State) :
    (tableStep t a speed want s).WaitsIn s.keepsCodec :=
  (codeNibble_waitsIn a speed want s).bind fun v u => applyRow_waitsIn t v u

theorem intStep_waitsIn (u : IntUser) (stage : IntStage) (s : State) :
    (intStep u stage s).WaitsIn s.keepsCodec := by
  cases stage with
  | mantissaNibbles ld lr dsf =>
    exact (codeNibble_waitsIn _ _ _ s).bind fun n v => mantissaNibble_waitsIn u ld lr dsf n v
  | _ => exact tableStep_waitsIn _ _ _ _ s

theorem beginStep_waitsIn (s : State) : (beginStep s).WaitsIn P := by
  unfold beginStep
  split <;> trivial

theorem cmapSlot_waitsIn {map : Memory Byte} {len idx : Nat} {k : Nat → Reply Unit} (hk : ∀ slot, (k slot).WaitsIn P) :
    (cmapSlot map len idx s k).WaitsIn P := .ite (hk 0) (.ite (raise_waitsIn _ s) (hk _))

theorem withDistSlot_waitsIn {k : Nat → Reply Unit} (hk : ∀ slot, (k slot).WaitsIn P) :
    (withDistSlot s k).WaitsIn P := cmapSlot_waitsIn hk

/-- Averaging the two cells into `MIX` before a literal nibble keeps what the nibble keeps (R311). -/
theorem literalMixedStep_waitsIn (idx : BitVec 33) (s : State) : (literalMixedStep idx s).WaitsIn s.keepsCodec := by
  have coded (mix : Cdf16) (want : Nibble) : (codeAgainst mix want (s.setMix mix)).WaitsIn s.keepsCodec :=
    codeAgainst_waitsIn mix want (s.setMix mix)
  unfold literalMixedStep withLitSlot
  exact cmapSlot_waitsIn fun _ => (coded _ _).bind fun _ _ => trivial

theorem literalStep_waitsIn (idx : BitVec 33) (s : State) : (literalStep idx s).WaitsIn s.keepsCodec := by
  unfold literalStep
  exact .ite ((codeAgainst_waitsIn _ _ s).bind fun _ _ => trivial) (literalMixedStep_waitsIn idx s)

theorem substateStep_waitsIn (s : State) : (substateStep s).WaitsIn s.keepsCodec := by
  unfold substateStep
  cases s.codec.substate with
  | begin => exact beginStep_waitsIn s
  | countDecoded => exact withDistSlot_waitsIn fun _ => trivial
  | distanceLengthMnemonic => exact withDistSlot_waitsIn fun _ => tableStep_waitsIn _ _ _ _ s
  | distanceLengthFirst => exact withDistSlot_waitsIn fun _ => tableStep_waitsIn _ _ _ _ s
  | distanceMantissaNibbles =>
    exact withDistSlot_waitsIn fun _ => (codeNibble_waitsIn _ _ _ s).bind fun n u => distanceNibble_waitsIn _ _ _ n u
  | literalNibbleIndex idx => exact literalStep_waitsIn idx s
  | literalHighEntropy | predMode | predSpeedStride | predSpeedCm | mapEntryMnemonic =>
    exact tableStep_waitsIn _ _ _ _ s
  | blockTypeHigh | blockTypeLow | mapEntryHigh | mapEntryLow =>
    exact (codeNibble_waitsIn _ _ _ s).bind fun _ _ => trivial
  | fullyDecoded => trivial
  | _ => exact intStep_waitsIn _ _ s

theorem codecStep_waitsIn (s : State) : (codecStep s).WaitsIn s.keepsCodec := by
  unfold codecStep
  split
  · exact tableStep_waitsIn _ _ _ _ s
  · exact substateStep_waitsIn s
  · exact raise_waitsIn _ s

end

/-- Settles O53: only the coder of the step's nibble waits, and its moves keep the codec. -/
theorem suspendedStepKeepsCodec : Obligations.SuspendedStepKeepsCodec := by
  intro s t w h
  have hwait := codecStep_waitsIn s
  rw [h] at hwait
  exact hwait

end Sys2Proof.Machine
end

section
/-! SUPPORT. What a coded-nibble row leaves unchanged: everything but the codec, of the bookkeeping the registers of no
row, and where it cannot commit what the commit writes (R262, R300, R324). -/

namespace Sys2Proof.Machine

/-! ### The bookkeeping registers a row keeps -/

/-- The bookkeeping registers that no row writes. -/
structure Context.RowFrame (x y : Context) : Prop where
  btypeLit  : y.btypeLit = x.btypeLit
  btypeCmd  : y.btypeCmd = x.btypeCmd
  btypeDist : y.btypeDist = x.btypeDist
  hist      : y.hist = x.hist
  weights   : y.weights = x.weights
  eofSeen   : y.eofSeen = x.eofSeen

/-- The registers and maps that only the commit writes (R324). -/
structure Context.Uncommitted (x y : Context) : Prop where
  predMode    : y.predMode = x.predMode
  speedStride : y.speedStride = x.speedStride
  speedCm     : y.speedCm = x.speedCm
  litCmapLen  : y.litCmapLen = x.litCmapLen
  distCmapLen : y.distCmapLen = x.distCmapLen
  litCmap     : y.litCmap = x.litCmap
  distCmap    : y.distCmap = x.distCmap

/-- `t` has the bookkeeping of `s` as a row leaves it, which under the condition `commits` may have committed. -/
def State.rowKeeps (commits : Prop) (s t : State) : Prop :=
  s.ctx.RowFrame t.ctx ∧ (¬ commits → s.ctx.Uncommitted t.ctx)

theorem Context.RowFrame.refl (x : Context) : x.RowFrame x := ⟨rfl, rfl, rfl, rfl, rfl, rfl⟩

theorem Context.RowFrame.trans {x y z : Context} (h : x.RowFrame y) (h' : y.RowFrame z) : x.RowFrame z :=
  ⟨h'.btypeLit.trans h.btypeLit, h'.btypeCmd.trans h.btypeCmd, h'.btypeDist.trans h.btypeDist, h'.hist.trans h.hist,
    h'.weights.trans h.weights, h'.eofSeen.trans h.eofSeen⟩

theorem Context.Uncommitted.refl (x : Context) : x.Uncommitted x := ⟨rfl, rfl, rfl, rfl, rfl, rfl, rfl⟩

theorem Context.rowFrame_committed (c : Command) (x : Context) : x.RowFrame (x.committed c) :=
  ⟨rfl, rfl, rfl, rfl, rfl, rfl⟩

section
variable {commits : Prop} {s : State}

theorem State.rowKeeps_of_ctx_eq {t : State} (h : t.ctx = s.ctx) : s.rowKeeps commits t := by
  unfold State.rowKeeps
  rw [h]
  exact ⟨.refl _, fun _ => .refl _⟩

theorem State.rowKeeps_touched (d : BitVec 32) {t : State}
    (h : t.ctx = { s.ctx with distanceLru := touch s.ctx.distanceLru d }) : s.rowKeeps commits t := by
  unfold State.rowKeeps
  rw [h]
  exact ⟨⟨rfl, rfl, rfl, rfl, rfl, rfl⟩, fun _ => ⟨rfl, rfl, rfl, rfl, rfl, rfl, rfl⟩⟩

theorem ok_rowKeeps {t : State} (h : t.ctx = s.ctx) : (Reply.ok () t).Ends (s.rowKeeps commits) :=
  State.rowKeeps_of_ctx_eq h

theorem raise_rowKeeps (c : Cause) : (raise c s : Reply Unit).Ends (s.rowKeeps commits) :=
  raise_ends c (State.rowKeeps_of_ctx_eq rfl)

/-! ### The rows -/

/-- A complete integer commits only where it is the count 0 of the distance map (R321). -/
theorem complete_rowKeeps (u : IntUser) (v : BitVec 32) (h : v = 0 → commits) :
    (u.complete v s).Ends (s.rowKeeps commits) := by
  cases u with
  | copyCount => exact ok_rowKeeps rfl
  | literalLen => exact ite_raise_ends (State.rowKeeps_of_ctx_eq rfl) (ok_rowKeeps rfl)
  | dictField f => exact ok_rowKeeps rfl
  | mapCount mi =>
    obtain ⟨g, -, hs⟩ := s.setDecoded_eq (setCommandMap_kind mi (List.replicate v.toNat 0))
    refine ite_raise_ends (State.rowKeeps_of_ctx_eq rfl) ?_
    rw [show (if s.isDecode then s.setCmd (setCommandMap mi (List.replicate v.toNat 0)) else s) = s.setCmd g from hs]
    split
    · exact ok_rowKeeps rfl
    · next hzero =>
      split
      · exact ok_rowKeeps rfl
      · exact ⟨Context.rowFrame_committed (g s.codec.cmd) s.ctx, fun hno => absurd (h (by simpa using hzero)) hno⟩

theorem firstNibble_rowKeeps (f : Nibble) : (firstNibble f.toNat s).Ends (s.rowKeeps commits) :=
  withUser_ends fun u _ _ => ite_raise_ends (State.rowKeeps_of_ctx_eq rfl)
    (complete_rowKeeps u _ fun h0 => by bv_omega)

theorem greaterNibble_rowKeeps (g : Nibble) : (greaterNibble g.toNat s).Ends (s.rowKeeps commits) := by
  refine withUser_ends fun u _ _ => ite_raise_ends (State.rowKeeps_of_ctx_eq rfl) (complete_rowKeeps u _ fun h0 => ?_)
  have ht2 : u.t2 = 18 ∨ u.t2 = 15 := by
    unfold IntUser.t2
    split
    · exact .inl rfl
    · exact .inr rfl
  bv_omega

theorem headerNibble_rowKeeps (h : Nat) : (headerNibble h s).Ends (s.rowKeeps commits) := by
  unfold headerNibble
  refine ite_raise_ends (State.rowKeeps_of_ctx_eq rfl) ?_
  split
  · exact ok_rowKeeps rfl
  · exact withUser_ends fun _ _ _ => ok_rowKeeps rfl

theorem smallGoto_rowKeeps (next : IntStage) : (smallGoto next s).Ends (s.rowKeeps commits) :=
  withUser_ends fun _ _ _ => ok_rowKeeps rfl

theorem smallEscape_rowKeeps : (smallEscape s).Ends (s.rowKeeps commits) := by
  refine withUser_ends fun u _ _ => ?_
  split
  · exact State.rowKeeps_touched s.ctx.distanceLru[0] rfl
  · exact raise_rowKeeps _

theorem mnemonicNibble_rowKeeps (m : Fin 15) : (mnemonicNibble m s).Ends (s.rowKeeps commits) := by
  unfold mnemonicNibble
  dsimp only
  split
  · exact State.rowKeeps_touched _ rfl
  · exact raise_rowKeeps _

theorem speedField_rowKeeps (v : BitVec 3) : (speedField v s).Ends (s.rowKeeps commits) := by
  unfold speedField
  split
  · exact ok_rowKeeps rfl
  · exact ok_rowKeeps rfl

theorem entryDone_rowFrame (mi : MapId) (j : Nat) (e : Byte) (s : State) :
    s.ctx.RowFrame (entryDone mi j e s).ctx := by
  have hcached : s.ctx.RowFrame (s.ctx.cached e) := ⟨rfl, rfl, rfl, rfl, rfl, rfl⟩
  rcases entryDone_cases mi j e s with h | h | h <;> rw [h, State.withCodec_ctx]
  · exact hcached
  · exact hcached
  · exact hcached.trans (Context.rowFrame_committed _ _)

theorem cmapRecent_rowKeeps (m : Fin 13) (h : commits) : (cmapRecent m s).Ends (s.rowKeeps commits) :=
  withEntry_ends fun mi j _ => ⟨entryDone_rowFrame mi j _ s, fun hno => absurd h hno⟩

/-- Every row keeps the bookkeeping of no row, and outside the two tables that can commit what the commit writes. -/
theorem rowBody_rowKeeps (t : NibbleTable) (v : Nibble) (s : State) :
    (rowBody t v s).Ends (s.rowKeeps (t = .cmapEntry ∨ t = .small)) := by
  cases t with
  | cmdType =>
    unfold rowBody
    dsimp only
    split
    · exact ⟨⟨rfl, rfl, rfl, rfl, rfl, rfl⟩, fun _ => ⟨rfl, rfl, rfl, rfl, rfl, rfl, rfl⟩⟩
    · exact raise_rowKeeps _
  | small =>
    unfold rowBody
    dsimp only
    repeat' split
    · exact withUser_ends fun u _ _ => complete_rowKeeps u _ fun _ => .inr rfl
    · exact smallGoto_rowKeeps _
    · exact smallGoto_rowKeeps _
    · exact smallEscape_rowKeeps
    · exact smallGoto_rowKeeps _
    · exact raise_rowKeeps _
  | firstCopy | firstLit => exact firstNibble_rowKeeps v
  | greaterCopy | greaterLit => exact greaterNibble_rowKeeps v
  | header => exact headerNibble_rowKeeps v.toNat
  | distMnemonic =>
    unfold rowBody
    dsimp only
    split
    · exact mnemonicNibble_rowKeeps _
    · exact ok_rowKeeps rfl
  | cmapEntry =>
    unfold rowBody
    dsimp only
    repeat' split
    · exact cmapRecent_rowKeeps _ (.inl rfl)
    · exact withEntry_ends fun _ _ _ => ok_rowKeeps rfl
    · exact raise_rowKeeps _
  | highEntropy =>
    unfold rowBody
    dsimp only
    repeat' split
    · exact ok_rowKeeps rfl
    · exact ok_rowKeeps rfl
    · exact raise_rowKeeps _
  | predMode =>
    unfold rowBody
    dsimp only
    split
    · exact ok_rowKeeps rfl
    · exact raise_rowKeeps _
  | speed =>
    unfold rowBody
    dsimp only
    split
    · exact speedField_rowKeeps _
    · exact raise_rowKeeps _

end

/-! ### The outcome of a row -/

/-- What the ends of a row satisfy, the failed ones included, its outcome satisfies. -/
theorem Reply.Ends.rowOutcome {P : State → Prop} {x : Reply Unit} {t : State} (h : x.Ends P)
    (hfail : ∀ c u, P u → P (u.failEntry c)) (ht : x.rowOutcome = .next t) : P t := by
  cases x with
  | ok a u => cases ht; exact h
  | wait w u => cases ht; exact h
  | fail u =>
    cases ht
    obtain ⟨c, u, hu, rfl⟩ := h
    exact hfail c u hu
  | refused r => cases ht
  | fault f => cases ht

theorem exec_decodeNibble_refused {s : State} {t : NibbleTable} (h : s.expects ≠ some t) (v : Nibble) :
    exec (decodeNibble t v) s = .refused .nibbleOutOfPlace := by
  rw [exec_eq_nibbleMeaning (encode_decodeNibble t v), nibbleMeaning_eq, atTable, if_neg h]

/-- A row answers only where its table is read. -/
theorem expects_of_exec_decodeNibble {s s' : State} {t : NibbleTable} {v : Nibble}
    (h : exec (decodeNibble t v) s = .next s') : s.expects = some t := by
  by_contra hne
  rw [exec_decodeNibble_refused hne] at h
  cases h

/-- `t` differs from `s` in nothing but the codec, the bookkeeping and what the failure entry writes. -/
def State.rowFrame (s t : State) : Prop :=
  t.ans1 = s.ans1 ∧ t.ans2 = s.ans2 ∧ t.queues = s.queues ∧ t.model = s.model ∧ t.bt = s.bt ∧
    t.ctl.cfg = s.ctl.cfg ∧ t.ctl.cfgLocked = s.ctl.cfgLocked ∧ t.ctl.encFinished = s.ctl.encFinished ∧
    t.port.requests = s.port.requests

theorem Moves.rowFrame {s t : State} (h : Moves Part.writtenByRow s t) : s.rowFrame t :=
  ⟨h.ans1_eq rfl, h.ans2_eq rfl, h.queues_eq rfl, h.model_eq rfl, h.bt_eq rfl, h.cfg_eq, h.cfgLocked_eq,
    h.encFinished_eq rfl, by rw [h.port_eq]⟩

/-- Settles O44: the moves of a row are of the codec, and its bookkeeping is that of `rowBody_rowKeeps`. -/
theorem rowFrame : Obligations.RowFrame := by
  refine fun t v s => ⟨fun hne => exec_decodeNibble_refused hne v, fun s' h => ?_⟩
  have hx := expects_of_exec_decodeNibble h
  rw [exec_decodeNibble hx] at h
  have hmoves : s.rowFrame s' :=
    ((rowBody_ends (W := Part.writtenByRow) rfl v hx).mono fun _ hm => hm.rowFrame).rowOutcome (fun _ _ hu => hu) h
  have hctx : s.rowKeeps (t = .cmapEntry ∨ t = .small) s' := (rowBody_rowKeeps t v s).rowOutcome (fun _ _ hu => hu) h
  obtain ⟨h1, h2, hq, hm, hbt, hcfg, hlocked, hfin, hreq⟩ := hmoves
  obtain ⟨⟨hlit, hcmd, hdist, hhist, hweights, heof⟩, hmaps⟩ := hctx
  refine ⟨h1, h2, hq, hm, hbt, hcfg, hlocked, hfin, hreq, hlit, hcmd, hdist, hhist, hweights, heof, fun hne hne' => ?_⟩
  obtain ⟨hpm, hss, hsc, hll, hdl, hlm, hdm⟩ := hmaps (by simp [hne, hne'])
  exact ⟨hpm, hss, hsc, hll, hdl, fun a => by rw [hlm], fun a => by rw [hdm]⟩

end Sys2Proof.Machine
end

section
/-! SUPPORT. Coding a nibble inside a command (R261, R262): the codec step does what `T_PUT_NIBBLE` or `T_GET_NIBBLE`
does against the contents of its cell, and goes on with the nibble. The coders read neither the cells nor the lock,
so the operation on `MIX` and the step end in the same way. -/

namespace Sys2Proof.Machine

/-! ### The coders read neither the cells nor the lock -/

/-- The state with other cells and another lock. -/
def State.beside (m : Model) (locked : Bool) (s : State) : State :=
  { s with model := m, ctl := { s.ctl with cfgLocked := locked } }

/-- Two replies that end in the same way, the state of the first being `beside` that of the second. Neither is refused
or faults. -/
inductive Reply.Parallel {α : Type} (m : Model) (locked : Bool) : Reply α → Reply α → Prop
  | ok (a : α) (s : State) : Parallel m locked (.ok a (s.beside m locked)) (.ok a s)
  | wait (w : Wait) (s : State) : Parallel m locked (.wait w (s.beside m locked)) (.wait w s)
  | raise (c : Cause) (s : State) : Parallel m locked (raise c (s.beside m locked)) (raise c s)

section
variable {α β : Type} {m : Model} {l : Bool}

theorem Reply.Parallel.moved {a : α} {s t : State} (h : t = s.beside m l) : (Reply.ok a t).Parallel m l (.ok a s) :=
  h ▸ .ok a s

theorem Reply.Parallel.bind {x y : Reply α} {k : α → State → Reply β} (h : x.Parallel m l y)
    (hk : ∀ a s, (k a (s.beside m l)).Parallel m l (k a s)) : (x.bind k).Parallel m l (y.bind k) := by
  cases h with
  | ok a s => exact hk a s
  | wait w s => exact .wait w s
  | raise c s => exact .raise c s

theorem Reply.Parallel.map {x y : Reply α} {f : α → β} (h : x.Parallel m l y) : (x.map f).Parallel m l (y.map f) :=
  h.bind fun a s => .ok (f a) s

theorem Reply.Parallel.ite {c : Prop} [Decidable c] {x x' y y' : Reply α} (h : x.Parallel m l y)
    (h' : x'.Parallel m l y') : (if c then x else x').Parallel m l (if c then y else y') := by
  split
  · exact h
  · exact h'

theorem ansEncode_beside (bit : Bool) (p : Byte) (s : State) :
    (ansEncode bit p (s.beside m l)).Parallel m l (ansEncode bit p s) :=
  .ite (.raise _ s) (.ite (.ite (.raise _ s) (.moved rfl)) (.moved rfl))

theorem ansAdvance_beside (limit x1 : Nat) (s : State) :
    (ansAdvance limit x1 (s.beside m l)).Parallel m l (ansAdvance limit x1 s) :=
  .ite (.ite (.raise _ s) (.moved rfl)) (.moved rfl)

theorem ansFlush_beside (s : State) : (ansFlush (s.beside m l)).Parallel m l (ansFlush s) :=
  .ite (.raise _ s) (.moved rfl)

theorem chunkEncode_beside (n : Nat) (s : State) :
    (chunkEncode n (s.beside m l)).Parallel m l (chunkEncode n s) := by
  induction n generalizing s with
  | zero => exact .ok _ s
  | succ n ih => exact (ansEncode_beside _ _ s).bind fun _ u => ih u

theorem chunkFlush_beside (s : State) : (chunkFlush (s.beside m l)).Parallel m l (chunkFlush s) :=
  .ite (.ok _ s) (.ite (.wait _ s)
    (((chunkEncode_beside _ { s with ans1 := s.ans1.encodeInit }).bind fun _ u => ansFlush_beside u).bind
      fun _ _ => .moved rfl))

theorem chunkPutBit_beside (bit : Bool) (p : Byte) (s : State) :
    (chunkPutBit bit p (s.beside m l)).Parallel m l (chunkPutBit bit p s) :=
  .ite (.raise _ s) (.ite (.raise _ s)
    ((Reply.Parallel.ite (chunkFlush_beside s) (.ok _ s)).bind fun _ _ => .moved rfl))

theorem chunkHeader_beside (s : State) : (chunkHeader (s.beside m l)).Parallel m l (chunkHeader s) :=
  .ite (.ok _ s) (.ite (.wait _ s) (.ite (.raise _ (s.pop .input 2)) (.moved rfl)))

theorem chunkPayload_beside (s : State) : (chunkPayload (s.beside m l)).Parallel m l (chunkPayload s) :=
  .ite (.ok _ s) (.ite (.wait _ s) (.moved rfl))

theorem chunkGetBit_beside (p : Byte) (s : State) :
    (chunkGetBit p (s.beside m l)).Parallel m l (chunkGetBit p s) := by
  have loop (n : Nat) (s : State) : (chunkGetLoop p n (s.beside m l)).Parallel m l (chunkGetLoop p n s) := by
    induction n generalizing s with
    | zero => exact .wait _ s
    | succ n ih =>
      exact (chunkHeader_beside s).bind fun _ u => (chunkPayload_beside u).bind fun _ v =>
        .ite (ih { v with ans1 := { v.ans1 with phase := .needHdr } }) (ansAdvance_beside _ _ v).map
  exact .ite (.raise _ s) (loop _ s)

theorem reversePutSym_beside (k : Bool) (start freq : Nat) (s : State) :
    reversePutSym k start freq (s.beside m l) = (reversePutSym k start freq s).beside m l := by
  unfold reversePutSym
  rw [apply_ite (State.beside m l)]
  rfl

theorem flushSyms_beside (n : Nat) (s : State) : flushSyms n (s.beside m l) = (flushSyms n s).beside m l := by
  induction n generalizing s with
  | zero => rfl
  | succ n ih => exact (congrArg (flushSyms n) (reversePutSym_beside _ _ _ s)).trans (ih _)

theorem symFlush_beside (s : State) : (symFlush (s.beside m l)).Parallel m l (symFlush s) := by
  have hflushed : (s.beside m l).batchFlushed = s.batchFlushed.beside m l := by
    have hsyms : flushSyms s.ans2.symCount.toNat { s.beside m l with ans2 := s.ans2.startStates } = _ :=
      flushSyms_beside _ { s with ans2 := s.ans2.startStates }
    unfold State.batchFlushed
    rw [show (s.beside m l).ans2 = s.ans2 from rfl, hsyms]
    rfl
  exact .ite (.ok _ s) (.ite (.wait _ s) (.moved (congrArg (fun u : State => { u with ctl := { u.ctl with
    encFinished := u.ctl.encFinished || decide (s.ans2.symCount.toNat < Config.batchSyms) } }) hflushed)))

theorem symPut_beside (start freq : BitVec 16) (s : State) :
    (symPut start freq (s.beside m l)).Parallel m l (symPut start freq s) :=
  .ite (.raise _ s) (.ite (.raise _ s) (.ite (.raise _ s)
    ((Reply.Parallel.ite (symFlush_beside s) (.ok _ s)).bind fun _ _ => .moved rfl)))

theorem symOffset_beside (s : State) : (symOffset (s.beside m l)).Parallel m l (symOffset s) := by
  have loop (n : Nat) (s : State) : (fillLoop n (s.beside m l)).Parallel m l (fillLoop n s) := by
    induction n generalizing s with
    | zero => exact .ok _ s
    | succ n ih =>
      exact .ite (.wait _ s)
        (ih { s.pop .input 1 with ans2 := s.ans2.takeByte (((s.queues.popBytes .input 1).head?).getD 0) })
  exact (loop _ s).bind fun _ u => .ok _ u

theorem symAdvance_beside (start freq : BitVec 16) (s : State) :
    (symAdvance start freq (s.beside m l)).Parallel m l (symAdvance start freq s) :=
  .ite (.raise _ s) (.ite (.raise _ s) (.ite (.moved rfl) (.raise _ s)))

theorem putBit_beside (bit : Bool) (p : Byte) (s : State) :
    (putBit bit p (s.beside m l)).Parallel m l (putBit bit p s) :=
  .ite (.ite (.raise _ s) (symPut_beside _ _ s)) (chunkPutBit_beside bit p s)

theorem getBit_beside (p : Byte) (s : State) : (getBit p (s.beside m l)).Parallel m l (getBit p s) :=
  .ite (.ite (.raise _ s) ((symOffset_beside s).bind fun _ u => (symAdvance_beside _ _ u).map))
    (chunkGetBit_beside p s)

theorem withDivisor_beside {x y : Reply α} (d : Int) (s : State) (h : x.Parallel m l y) :
    (withDivisor d (s.beside m l) x).Parallel m l (withDivisor d s y) := .ite (.raise _ s) h

theorem putNibble_beside (x : Cdf16) (nibble : Nibble) (s : State) :
    (putNibble x nibble (s.beside m l)).Parallel m l (putNibble x nibble s) := by
  have tree (n : Nat) (s : State) : (putTree x nibble n (s.beside m l)).Parallel m l (putTree x nibble n s) := by
    induction n generalizing s with
    | zero => exact .moved rfl
    | succ n ih =>
      exact withDivisor_beside _ s ((putBit_beside _ _ s).bind fun _ u =>
        ih { u with bt := u.bt.decideBit x n (nibble.getLsbD n) })
  exact .ite (withDivisor_beside _ s (symPut_beside _ _ s)) (tree _ { s with bt := s.bt.resume x })

theorem getNibble_beside (x : Cdf16) (s : State) :
    (getNibble x (s.beside m l)).Parallel m l (getNibble x s) := by
  have tree (n : Nat) (s : State) : (getTree x n (s.beside m l)).Parallel m l (getTree x n s) := by
    induction n generalizing s with
    | zero => exact .moved rfl
    | succ n ih =>
      exact withDivisor_beside _ s ((getBit_beside _ s).bind fun bit u => ih { u with bt := u.bt.decideBit x n bit })
  exact .ite
    ((symOffset_beside s).bind fun _ u => withDivisor_beside _ u (.ite (.raise _ u) (symAdvance_beside _ _ u).map))
    (tree _ { s with bt := s.bt.resume x })

theorem codeAgainst_beside (x : Cdf16) (want : Nibble) (s : State) :
    (codeAgainst x want (s.beside m l)).Parallel m l (codeAgainst x want s) :=
  .ite (getNibble_beside x s) (putNibble_beside x want s).map

end

/-! ### The nibble operation of a codec step -/

section
variable {s : State} {x : Cdf16} {want v : Nibble}

/-- What the nibble operation of the session returns besides its result (R245, R246). -/
def State.nibbleReturns (s : State) (v : Nibble) : Returns := if s.isDecode then .nibble v else .nothing

theorem codeAgainst_eq_put (hd : s.isDecode = false) :
    codeAgainst x want s = (putNibble x want s).map fun _ => want := if_neg (by simp [hd])

theorem codeAgainst_eq_get (hd : s.isDecode = true) : codeAgainst x want s = getNibble x s := if_pos hd

theorem Reply.map_map {α β γ : Type} (y : Reply α) (f : α → β) (g : β → γ) :
    (y.map f).map g = y.map fun a => g (f a) := Reply.bind_assoc _ _ _

theorem State.nibbleReturns_put (hd : s.isDecode = false) : s.nibbleReturns = fun _ => .nothing :=
  funext fun _ => if_neg (by simp [hd])

theorem State.nibbleReturns_get (hd : s.isDecode = true) : s.nibbleReturns = .nibble := funext fun _ => if_pos hd

/-- The nibble operation on `MIX`, holding `x`, codes against `x` with the lock set. -/
theorem State.nibbleOp_eq (hf : s.ctl.failed = false) :
    s.nibbleOp x want =
      ((codeAgainst x want (s.beside { s.model with mix := x } true)).map s.nibbleReturns).outcome := by
  have hcell : ({ s with model := { s.model with mix := x } } : State).cell? 41887 = some x := rfl
  unfold State.nibbleOp
  cases hd : s.isDecode
  · rw [codeAgainst_eq_put (s := s.beside _ true) hd, Reply.map_map, State.nibbleReturns_put hd,
      if_neg Bool.false_ne_true]
    exact exec_tPutNibble (s := { s with model := { s.model with mix := x } }) ⟨hf, hd⟩ hcell want
  · rw [codeAgainst_eq_get (s := s.beside _ true) hd, State.nibbleReturns_get hd, if_pos rfl]
    exact exec_tGetNibble (s := { s with model := { s.model with mix := x } }) ⟨hf, hd⟩ hcell

/-- Inside a command the answer of the nibble operation, its cell and its lock are put aside. -/
theorem State.within_beside {u : State} (hu : Moves Part.writtenByCoder s u) (m : Model) (l : Bool) (r : Result)
    (ret : Returns) : s.within ((u.beside m l).answer r ret) = u := by
  obtain ⟨hctl, -, -, hmodel, hport⟩ := hu.coder_frame
  unfold State.within
  rw [← hctl, ← hmodel, ← hport]
  rfl

/-- A failure inside a command is that of the nibble operation, with the cells and the lock of the command. -/
theorem State.within_failEntry {u : State} (hmodel : u.model = s.model)
    (hlocked : u.ctl.cfgLocked = s.ctl.cfgLocked) (m : Model) (l : Bool) (c : Cause) :
    { s.within ((u.beside m l).failEntry c) with
        ctl := { ((u.beside m l).failEntry c).ctl with cfgLocked := s.ctl.cfgLocked }
        port := ((u.beside m l).failEntry c).port } = u.failEntry c := by
  unfold State.within
  rw [← hmodel, ← hlocked]
  rfl

/-- A step that codes against `x` and then does `k` codes its nibble by the nibble operation, and goes on as `k`
does. -/
theorem codesNibble_of_bind {reply : Reply Unit} {k : Nibble → State → Reply Unit} {goes : State → Prop}
    (hf : s.ctl.failed = false) (hreply : reply = (codeAgainst x want s).bind k)
    (hgoes : ∀ b, codeAgainst x want s = .ok v b → goes b) : s.codesNibble x want v reply goes := by
  have hends := codeAgainst_coderMoves x want s
  have hpar := codeAgainst_beside (m := { s.model with mix := x }) (l := true) x want s
  subst hreply
  unfold State.codesNibble
  rw [State.nibbleOp_eq hf]
  generalize hcode : codeAgainst x want s = y at hends hpar hgoes
  generalize codeAgainst x want (s.beside _ true) = y' at hpar
  cases hpar with
  | ok n u =>
    refine ⟨_, rfl, nofun, nofun, nofun, fun _ => ⟨n, fun he => codeAgainst_encode he hcode, fun hd => ?_, ?_⟩⟩
    · rw [State.nibbleReturns_get hd]
      rfl
    · rintro rfl
      rw [State.within_beside hends]
      exact hgoes u rfl
  | wait w u =>
    cases w with
    | input =>
      exact ⟨_, rfl, fun _ => by rw [State.within_beside hends]; rfl, nofun, nofun, nofun⟩
    | output =>
      exact ⟨_, rfl, nofun, fun _ => by rw [State.within_beside hends]; rfl, nofun, nofun⟩
  | raise c u =>
    obtain ⟨c', u', hu', hraise⟩ := hends
    have hmodel : u.model = s.model := (congrArg State.model hraise).trans (hu'.model_eq rfl)
    have hlocked : u.ctl.cfgLocked = s.ctl.cfgLocked :=
      (congrArg (fun t : State => t.ctl.cfgLocked) hraise).trans hu'.cfgLocked_eq
    exact ⟨_, rfl, nofun, nofun, fun _ => by rw [State.within_failEntry hmodel hlocked]; rfl, nofun⟩

/-- In `DIRECT16` mode with room, or with the bytes there, the coder codes the nibble as a symbol (R245, R246). -/
theorem codeAgainst_of_canCode (h : s.canCode x want v) :
    ∃ e, s.codedAs x v e ∧ codeAgainst x want s = .ok v { s with ans2 := e } := by
  obtain ⟨hf, hdirect, hv, hpdf, henc, hdec⟩ := h
  obtain ⟨-, hfreq, -, -, hle, howns⟩ := intervalOwnsOffsets x v hv hpdf
  have hnonzero : symFreq x v.toNat ≠ 0 := fun h0 => by rw [h0] at hfreq; cases hfreq
  have htotal : cdf x 15 ≠ 0 := (cdf_total_pos hv).ne'
  cases hd : s.isDecode
  · obtain ⟨hopen, hroom, rfl⟩ := henc hd
    refine ⟨s.ans2.bufferSym (symStart x v.toNat) (symFreq x v.toNat),
      ⟨fun _ => rfl, fun h1 => absurd (hd.symm.trans h1) (by decide)⟩, ?_⟩
    rw [codeAgainst_eq_put hd, putNibble_direct hdirect htotal, symPut_room hopen hnonzero hle hroom]
    rfl
  · obtain ⟨hboot, hpull, hlo, hhi⟩ := hdec hd
    refine ⟨s.ans2.advance (symStart x v.toNat).toNat (symFreq x v.toNat).toNat,
      ⟨fun h0 => absurd (hd.symm.trans h0) (by decide), fun _ => ?_⟩, ?_⟩
    · rw [exec_nDecAdvanceSym ⟨hf, hd⟩, symAdvance_owned (s := s.lock) hboot hpull hnonzero hlo hhi hle]
      exact ⟨_, rfl, rfl, rfl⟩
    · rw [codeAgainst_eq_get hd, getNibble_owned hdirect hboot hpull htotal (howns _ hlo hhi) hlo,
        symAdvance_owned hboot hpull hnonzero hlo hhi hle]
      rfl

/-- A step that codes against `x` and then does `k` is a coded step: where the nibble is `v` it goes on as `k` does. -/
theorem codedStep_of_bind {reply : Reply Unit} {k : Nibble → State → Reply Unit} {goes : State → Prop}
    (hreply : reply = (codeAgainst x want s).bind k)
    (hgoes : ∀ b, s.ctl.failed = false → codeAgainst x want s = .ok v b → goes b) :
    s.codedStep x want v reply goes := by
  refine ⟨fun hcan => ?_, fun hf => codesNibble_of_bind hf hreply fun b => hgoes b hf⟩
  obtain ⟨e, he, hcode⟩ := codeAgainst_of_canCode hcan
  exact ⟨e, he, hgoes _ hcan.1 hcode⟩

/-- `t` has the codec, the bookkeeping and the control registers of `s`. -/
def State.sameCommand (s t : State) : Prop := t.codec = s.codec ∧ t.ctx = s.ctx ∧ t.ctl = s.ctl

theorem State.blendedAs_setPrior {b : State} (hcan : s.memoriesCanonical = true) (hb : b.model = s.model) (a : Nat)
    (speed : BitVec 3) (v : Nibble) : b.blendedAs a speed v (b.setPrior a (blend (b.prior a) v.toNat speed)) := by
  obtain ⟨-, -, -, ⟨hpriors, -⟩, -⟩ := s.memoriesCanonical_iff.mp hcan
  rw [← hb] at hpriors
  refine ⟨_, ?_, fun d hd => ?_, rfl⟩
  · rw [Memory.read_write hpriors, if_pos rfl]
  · rw [Memory.read_write hpriors, if_neg hd]
    rfl

/-- A step that codes a nibble against the cell at `a`, blends the cell and then does `k` is a coded step, which goes on
as `k` does from the blended state, inside the same command. -/
theorem codedStep_of_codeNibble {reply : Reply Unit} {k : Nibble → State → Reply Unit} {goes : State → Prop} {a : Nat}
    {speed : BitVec 3} (hcan : s.memoriesCanonical = true) (hreply : reply = (codeNibble a speed want s).bind k)
    (hgoes : ∀ b coded, s.ctl.failed = false → s.sameCommand coded → b.blendedAs a speed v coded → reply = k v coded →
      goes b) :
    s.codedStep (s.prior a) want v reply goes := by
  refine codedStep_of_bind (hreply.trans (Reply.bind_assoc _ _ _)) fun b hf hcode => ?_
  have hm := codeAgainst_coderMoves (s.prior a) want s
  rw [hcode] at hm
  obtain ⟨hctl, hcodec, hctx, hmodel, -⟩ := Moves.coder_frame hm
  refine hgoes b (b.setPrior a (blend (b.prior a) v.toNat speed)) hf ⟨hcodec, hctx, hctl⟩
    (State.blendedAs_setPrior hcan hmodel a speed v) ?_
  rw [hreply, codeNibble, Reply.bind_assoc, hcode]
  rfl

end

end Sys2Proof.Machine
end

section
/-! SUPPORT. The codec steps that code a nibble without a value table (R263, R268, R269, R285, R289, R322 to R324): a
nibble of a mantissa, of an explicit distance and of an explicit context-map entry; and the value of a mantissa. -/

namespace Sys2Proof.Machine

/-! ### The step of a substate -/

section
variable {s : State}

theorem codecStep_inCommand (htop : s.codec.top = .inCommand) : codecStep s = substateStep s := by
  rw [codecStep, htop]

/-- At a stage of a user the step is that stage of the user's integer. -/
theorem codecStep_at {u : IntUser} {stage : IntStage} (htop : s.codec.top = .inCommand)
    (hsub : s.codec.substate = u.at stage) : codecStep s = intStep u stage s := by
  rw [codecStep_inCommand htop, substateStep, hsub]
  cases u <;> cases stage <;> rfl

theorem IntUser.prior_eq_cells (u : IntUser) (s : State) (pos : Nat) : u.prior s pos = u.cells s + pos := by
  cases u with
  | mapCount mi => cases mi <;> simp only [IntUser.prior, IntUser.cells, priorCmapCount, MapId.index] <;> omega
  | _ =>
    simp only [IntUser.prior, IntUser.cells, priorCopyCount, priorLitCount, priorDict]
    omega

theorem IntUser.value_eq_operand (u : IntUser) (c : Command) : u.value c = u.operand c := by
  cases u with
  | dictField f => fin_cases f <;> rfl
  | mapCount mi => cases mi <;> rfl
  | _ => rfl

/-- The slot of a distance is looked up, or its context is beyond the map (R285). -/
theorem withDistSlot_eq (k : Nat → Reply Unit) :
    withDistSlot s k = s.distSlot?.elim (raise .contextMapIndexOutOfRange s) k := by
  have hzero : s.ctx.distCmapLen.toNat = 0 ↔ s.ctx.distCmapLen = 0 := by rw [← BitVec.toNat_inj]; rfl
  unfold withDistSlot cmapSlot State.distSlot?
  simp only [hzero]
  split
  · rfl
  · rw [apply_ite (Option.elim · _ k)]
    rfl

theorem withDistSlot_some {slot : Nat} (h : s.distSlot? = some slot) (k : Nat → Reply Unit) :
    withDistSlot s k = k slot := by rw [withDistSlot_eq, h]; rfl

theorem withDistSlot_none (h : s.distSlot? = none) (k : Nat → Reply Unit) :
    withDistSlot s k = raise .contextMapIndexOutOfRange s := by rw [withDistSlot_eq, h]; rfl

theorem priorDistance_eq (slot pos : Nat) : priorDistance slot pos = 7168 + slot * 10 + pos := by
  unfold priorDistance; omega

/-! ### Replies that answer -/

/-- A reply that never waits, from a session that has not failed, is what its outcome says. -/
theorem Reply.eq_of_rowOutcome {x : Reply Unit} {t : State} (hends : x.Ends fun u => u.ctl.failed = false)
    (hwait : x.WaitsIn fun _ => False) (h : x.rowOutcome = .next t) :
    x = if t.ctl.failed then .fail t else .ok () t := by
  cases x with
  | ok a u =>
    cases h
    rw [show t.ctl.failed = false from hends]
    rfl
  | wait w u => exact hwait.elim
  | fail u =>
    cases h
    obtain ⟨c, u, -, rfl⟩ := hends
    rfl
  | refused r => cases h
  | fault f => cases h

/-- A complete integer goes on to, or fails in, what the user's rule leaves. -/
theorem complete_eq {u : IntUser} {stage : IntStage} (hf : s.ctl.failed = false) (htop : s.codec.top = .inCommand)
    (hsub : s.codec.substate = u.at stage) (v : BitVec 32) :
    u.complete v s =
      if (intResult u v.toNat s).ctl.failed then .fail (intResult u v.toNat s) else .ok () (intResult u v.toNat s) := by
  refine Reply.eq_of_rowOutcome ?_ (complete_waitsIn u v s) ?_
  · exact (complete_ends (W := fun _ => true) rfl htop (kind_of_at hsub) v).mono fun _ h => h.failed_eq.trans hf
  · have hrow := complete_rowOutcome (s := s) u v.isLt
    rwa [BitVec.ofNat_toNat, BitVec.setWidth_eq] at hrow

/-! ### A mantissa nibble -/

theorem mantissaPut_eq (n : Nibble) (lr : BitVec 4) (dsf : BitVec 32) :
    mantissaPut n lr dsf = dsf ||| (n.setWidth 32 <<< (4 * (lr.toNat - 1))) := by
  unfold mantissaPut
  congr 1
  refine BitVec.eq_of_toNat_eq ?_
  rw [BitVec.toNat_ofNat, BitVec.toNat_shiftLeft, BitVec.toNat_setWidth_of_le (by decide), Nat.shiftLeft_eq]

/-- With at least one nibble remaining, at most one remains exactly where one does. -/
theorem toNat_le_one_iff {lr : BitVec 4} (h : 1 ≤ lr.toNat) : lr.toNat ≤ 1 ↔ lr = 1 := by bv_omega

/-- The state after a mantissa nibble that leaves `dsf`: the complete integer, or the next stage (R268). -/
def State.mantissaDone (u : IntUser) (ld lr : BitVec 4) (dsf : BitVec 32) (s : State) : State :=
  if lr = 1 then intResult u dsf.toNat s
  else s.withCodec (u.at (.mantissaNibbles (ld + 1) (lr - 1) dsf)) s.codec.cmd s.ctx

theorem mantissaNibble_eq {u : IntUser} {stage : IntStage} {ld lr : BitVec 4} (dsf : BitVec 32) (n : Nibble)
    (hf : s.ctl.failed = false) (htop : s.codec.top = .inCommand) (hsub : s.codec.substate = u.at stage)
    (hlr : 1 ≤ lr.toNat) :
    mantissaNibble u ld lr dsf n s =
      if (s.mantissaDone u ld lr (mantissaPut n lr dsf)).ctl.failed then
        .fail (s.mantissaDone u ld lr (mantissaPut n lr dsf))
      else .ok () (s.mantissaDone u ld lr (mantissaPut n lr dsf)) := by
  simp only [mantissaNibble, toNat_le_one_iff hlr, State.mantissaDone]
  split
  · exact complete_eq hf htop hsub _
  · rw [State.withCodec_ctl, hf]
    rfl

/-- The step of a mantissa nibble codes it against its cell and does what the nibble says (R268, R269). -/
theorem codecStep_mantissa {u : IntUser} {ld lr : BitVec 4} {dsf : BitVec 32} (htop : s.codec.top = .inCommand)
    (hsub : s.codec.substate = u.at (.mantissaNibbles ld lr dsf)) :
    codecStep s =
      (codeNibble (u.cells s + 4 + ld.toNat) 3 (mantissaWant (u.operand s.codec.cmd) lr dsf) s).bind
        (mantissaNibble u ld lr dsf) := by
  rw [codecStep_at htop hsub, intStep, u.prior_eq_cells, ← u.value_eq_operand, Nat.add_assoc]
  rfl

/-! ### A nibble of an explicit distance -/

theorem codecStep_distanceMantissa {ld lr : BitVec 4} {dsf : BitVec 32} {slot : Nat}
    (htop : s.codec.top = .inCommand) (hsub : s.codec.substate = .distanceMantissaNibbles ld lr dsf)
    (hslot : s.distSlot? = some slot) :
    codecStep s =
      (codeNibble (7168 + slot * 10 + 2 + ld.toNat) 3 (mantissaWant s.codec.cmd.distance.toNat lr dsf) s).bind
        (distanceNibble ld lr dsf) := by
  rw [codecStep_inCommand htop, substateStep, hsub]
  show distanceMantissaStep ld lr dsf s = _
  rw [distanceMantissaStep, withDistSlot_some hslot, priorDistance_eq, Nat.add_assoc (7168 + slot * 10) 2]

theorem distanceNibble_eq {ld lr : BitVec 4} (dsf : BitVec 32) (n : Nibble) (hlr : 1 ≤ lr.toNat) :
    distanceNibble ld lr dsf n s =
      if lr ≠ 1 then
        .ok () (s.withCodec (.distanceMantissaNibbles (ld + 1) (lr - 1) (mantissaPut n lr dsf)) s.codec.cmd s.ctx)
      else if mantissaPut n lr dsf = 0 then .fail (s.failEntry .distanceOutOfRange)
      else .ok () (copyDone (mantissaPut n lr dsf) s) := by
  simp only [distanceNibble, toNat_le_one_iff hlr, ite_not]
  rfl

/-! ### Nibbles of a byte -/

theorem toNat_nibbleOf_high (b : Byte) : (nibbleOf b 0).toNat = b.toNat / 16 := by
  have := b.isLt
  simp only [nibbleOf, if_true, BitVec.extractLsb'_toNat, Nat.shiftRight_eq_div_pow]
  omega

theorem nibbleOf_high (b : Byte) : nibbleOf b 0 = BitVec.ofNat 4 (b.toNat / 16) := by
  rw [← toNat_nibbleOf_high, BitVec.ofNat_toNat, BitVec.setWidth_eq]

theorem nibbleOf_low (b : Byte) : nibbleOf b 1 = BitVec.ofNat 4 (b.toNat % 16) := by
  refine BitVec.eq_of_toNat_eq ?_
  simp [nibbleOf, BitVec.extractLsb'_toNat]

/-- A byte of two nibbles. -/
theorem nibbles_append (hi lo : Nibble) : (hi ++ lo : Byte) = BitVec.ofNat 8 (hi.toNat * 16 + lo.toNat) := by
  refine BitVec.eq_of_toNat_eq ?_
  have hhi := hi.isLt
  have hlo := lo.isLt
  rw [BitVec.toNat_append, ← Nat.shiftLeft_add_eq_or_of_lt hlo, Nat.shiftLeft_eq, BitVec.toNat_ofNat]
  omega

/-! ### Nibbles of an explicit map entry -/

/-- The first cell of the entries of a context map (R70, R322). -/
def MapId.cells (mi : MapId) : Nat := if mi = .literal then 41851 else 41869

theorem priorCmapEntry_eq (mi : MapId) (which : Nat) : priorCmapEntry mi.index which = mi.cells + which := by
  cases mi
  · simp only [priorCmapEntry, MapId.index, MapId.cells, if_pos]
    omega
  · simp only [priorCmapEntry, MapId.index, MapId.cells, reduceCtorEq, if_false]
    omega

theorem setDecoded_goto (f : Command → Command) (x : Substate) :
    (s.setDecoded f).goto x = s.withCodec x (if s.isDecode then f s.codec.cmd else s.codec.cmd) s.ctx := by
  unfold State.setDecoded
  split <;> rfl

/-- A completed entry leaves what R323 and R324 say. -/
theorem entryDone_entryCompleted (hlit : Memory.wf 0 s.ctx.litCmap = true) (hdist : Memory.wf 0 s.ctx.distCmap = true)
    (mi : MapId) (j : Nat) (e : Byte) : s.entryCompleted mi j e (entryDone mi j e s) := by
  unfold State.entryCompleted
  intro ctx cmd
  have hcmd : cmd = setMapEntry mi j e s.codec.cmd := by cases mi <;> rfl
  rw [hcmd]
  refine ⟨fun hmore => entryDone_of_lt hmore e, fun hlast hmi => ?_, fun hlast hmi => ?_⟩
  · rw [entryDone_of_le hlast, if_pos hmi]
    rfl
  · refine ⟨_, _, ?_, read_writeList_zero hlit _, read_writeList_zero hdist _⟩
    rw [entryDone_of_le hlast, if_neg (by rw [hmi]; decide)]
    rfl

end

/-! ### The nibbles of a value -/

/-- The mantissa nibbles of a value are the least number of nibbles that holds it (R101, R267). -/
theorem nibbleCount_bounds {v : Nat} (hv : v < 2 ^ 32) :
    1 ≤ nibbleCount v ∧ nibbleCount v ≤ 8 ∧ v < 16 ^ nibbleCount v ∧
      (1 < nibbleCount v → 16 ^ (nibbleCount v - 1) ≤ v) := by
  have hlen : bitlen v ≤ 32 := by
    by_contra hlong
    have hpos : 0 < v := Nat.pos_of_ne_zero fun h0 => by simp [h0, bitlen] at hlong
    have hpow : 2 ^ 33 ≤ 2 ^ bitlen v := Nat.pow_le_pow_right (by decide) (by omega)
    have := two_pow_bitlen_le hpos
    omega
  have hsixteen (k : Nat) : 16 ^ k = 2 ^ (4 * k) := (Nat.pow_mul 2 4 k).symm
  refine ⟨by unfold nibbleCount; omega, by unfold nibbleCount; omega, ?holds, fun hmany => ?least⟩
  case holds =>
    rw [hsixteen]
    exact (lt_two_pow_bitlen v).trans_le (Nat.pow_le_pow_right (by decide) (by unfold nibbleCount; omega))
  case least =>
    have hshort : 4 * (nibbleCount v - 1) + 1 ≤ bitlen v := by unfold nibbleCount at hmany ⊢; omega
    have hpos : 0 < v := Nat.pos_of_ne_zero fun h0 => by simp [h0, bitlen] at hshort
    have hpow : 2 ^ (4 * (nibbleCount v - 1) + 1) ≤ 2 ^ bitlen v := Nat.pow_le_pow_right (by decide) hshort
    rw [hsixteen]
    have := two_pow_bitlen_le hpos
    omega

/-- What stands above the lowest `n` bits takes them alone out of a value. -/
theorem xor_high_part (v n : Nat) : v ^^^ (v / 2 ^ n * 2 ^ n) = v % 2 ^ n := by
  refine Nat.eq_of_testBit_eq fun i => ?_
  rw [Nat.testBit_xor, Nat.testBit_mul_two_pow, Nat.testBit_div_two_pow, Nat.testBit_mod_two_pow]
  by_cases hi : n ≤ i
  · simp [hi, Nat.not_lt.mpr hi]
  · simp [hi, Nat.lt_of_not_le hi]

/-- The value without its lowest `r` nibbles, as a mantissa register holds it while `r` nibbles remain (R268). -/
def mantissaSent (v r : Nat) : BitVec 32 := BitVec.ofNat 32 (v / 2 ^ (4 * r) * 2 ^ (4 * r))

theorem toNat_mantissaSent {v : Nat} (hv : v < 2 ^ 32) (r : Nat) :
    (mantissaSent v r).toNat = v / 2 ^ (4 * r) * 2 ^ (4 * r) := by
  rw [mantissaSent, BitVec.toNat_ofNat]
  exact Nat.mod_eq_of_lt ((Nat.div_mul_le_self _ _).trans_lt hv)

/-- The nibble an encoder chooses is the next one of the value. -/
theorem toNat_mantissaWant {v r : Nat} (hv : v < 2 ^ 32) (hr : r < 8) :
    (mantissaWant v (BitVec.ofNat 4 (r + 1)) (mantissaSent v (r + 1))).toNat = v / 2 ^ (4 * r) % 16 := by
  have hlr : (BitVec.ofNat 4 (r + 1)).toNat - 1 = r := by rw [BitVec.toNat_ofNat]; omega
  have hdigit : v % 2 ^ (4 * (r + 1)) / 2 ^ (4 * r) = v / 2 ^ (4 * r) % 16 := by
    rw [Nat.mul_succ, Nat.pow_add, Nat.mod_mul_right_div_self]
  rw [mantissaWant, hlr, toNat_mantissaSent hv, xor_high_part, hdigit, BitVec.toNat_ofNat]
  omega

/-- Putting the chosen nibble in leaves the value with one nibble less missing. -/
theorem mantissaPut_mantissaWant {v r : Nat} (hv : v < 2 ^ 32) (hr : r < 8) :
    mantissaPut (mantissaWant v (BitVec.ofNat 4 (r + 1)) (mantissaSent v (r + 1))) (BitVec.ofNat 4 (r + 1))
      (mantissaSent v (r + 1)) = mantissaSent v r := by
  have hlr : (BitVec.ofNat 4 (r + 1)).toNat - 1 = r := by rw [BitVec.toNat_ofNat]; omega
  have hsum : v / 2 ^ (4 * (r + 1)) * 2 ^ (4 * (r + 1)) + v / 2 ^ (4 * r) % 16 * 2 ^ (4 * r) =
      v / 2 ^ (4 * r) * 2 ^ (4 * r) := by
    have hpow : 2 ^ (4 * (r + 1)) = 16 * 2 ^ (4 * r) := by rw [Nat.mul_succ, Nat.pow_add, Nat.mul_comm]
    have hdiv : v / (16 * 2 ^ (4 * r)) = v / 2 ^ (4 * r) / 16 := by rw [Nat.mul_comm, Nat.div_div_eq_div_mul]
    rw [hpow, hdiv, ← Nat.mul_assoc, ← Nat.add_mul]
    congr 1
    omega
  have hlow : v / 2 ^ (4 * r) % 16 * 2 ^ (4 * r) < 2 ^ (4 * (r + 1)) := by
    rw [Nat.mul_succ, Nat.pow_add, Nat.mul_comm]
    exact Nat.mul_lt_mul_of_pos_left (Nat.mod_lt _ (by decide)) (Nat.two_pow_pos _)
  have hbound : v / 2 ^ (4 * r) % 16 * 2 ^ (4 * r) < 2 ^ 32 :=
    ((Nat.le_add_left _ _).trans_eq hsum).trans (Nat.div_mul_le_self _ _) |>.trans_lt hv
  refine BitVec.eq_of_toNat_eq ?_
  rw [mantissaPut, BitVec.toNat_or, BitVec.toNat_ofNat, hlr, toNat_mantissaWant hv hr, Nat.mod_eq_of_lt hbound,
    toNat_mantissaSent hv, toNat_mantissaSent hv, ← hsum]
  generalize v / 2 ^ (4 * (r + 1)) = q
  rw [← Nat.shiftLeft_eq q, Nat.shiftLeft_add_eq_or_of_lt hlow]

/-- The nibbles an encoder chooses, put together, give the value back. -/
theorem mantissa_roundTrip {v : Nat} (hv : v < 2 ^ 32) {k : Nat} (hk : k ≤ 8) (hholds : v < 16 ^ k) :
    (List.range k).foldl
      (fun dsf i => mantissaPut (mantissaWant v (BitVec.ofNat 4 (k - i)) dsf) (BitVec.ofNat 4 (k - i)) dsf) 0 =
        BitVec.ofNat 32 v := by
  have sent (m : Nat) (hm : m ≤ k) : (List.range m).foldl
      (fun dsf i => mantissaPut (mantissaWant v (BitVec.ofNat 4 (k - i)) dsf) (BitVec.ofNat 4 (k - i)) dsf) 0 =
        mantissaSent v (k - m) := by
    induction m with
    | zero =>
      rw [mantissaSent, Nat.sub_zero, Nat.pow_mul, Nat.div_eq_of_lt hholds, Nat.zero_mul]
      rfl
    | succ m ih =>
      have hleft : k - m = (k - (m + 1)) + 1 := by omega
      rw [List.range_succ, List.foldl_append, ih (by omega), List.foldl_cons, List.foldl_nil, hleft,
        mantissaPut_mantissaWant hv (by omega)]
  rw [sent k (Nat.le_refl k), Nat.sub_self, mantissaSent, Nat.mul_zero, Nat.pow_zero, Nat.div_one, Nat.mul_one]

/-- Settles O45: each step codes its nibble as `codedStep_of_codeNibble` says, and goes on by the equation of its
kind. -/
theorem mantissaAndEntryNibbleSteps : Obligations.MantissaAndEntryNibbleSteps := by
  refine ⟨?integer, ?distance, fun s mi j v hcan htop => ?entry, fun v hv => ?value⟩
  case integer =>
    intro s u ld lr dsf v hcan htop hsub hlr _ a sh dsf'
    refine codedStep_of_codeNibble hcan (codecStep_mantissa htop hsub)
      fun b coded hf ⟨hcodec, hctx, hctl⟩ hblend hk => ?_
    have hput : mantissaPut v lr dsf = dsf' := mantissaPut_eq v lr dsf
    refine ⟨coded, coded.mantissaDone u ld lr dsf', hblend, hk.trans ?_, ?_⟩
    · rw [← hput]
      exact mantissaNibble_eq dsf v (hctl ▸ hf) (hcodec ▸ htop) (hcodec ▸ hsub) hlr
    · rw [State.mantissaDone, hcodec, hctx]
  case distance =>
    intro s ld lr dsf v slot hcan htop hsub hlr _ hslot c a sh dsf'
    refine codedStep_of_codeNibble hcan (codecStep_distanceMantissa htop hsub hslot)
      fun b coded hf ⟨hcodec, hctx, hctl⟩ hblend hk => ⟨coded, hblend, hk.trans ?_⟩
    have hput : mantissaPut v lr dsf = dsf' := mantissaPut_eq v lr dsf
    rw [distanceNibble_eq dsf v hlr, hput, ← hctx, show c = coded.codec.cmd by rw [hcodec]]
    rfl
  case entry =>
    intro c e hi first stored
    have hhi : (nibbleOf e 0).toNat = hi := toNat_nibbleOf_high e
    have hstored (x : Byte) : stored x = setMapEntry mi j x c := by cases mi <;> rfl
    refine ⟨fun hsub => ?high, fun hsub => ?low⟩
    case high =>
      have hstep : codecStep s = (codeNibble (first + 1) 4 (BitVec.ofNat 4 hi) s).bind fun hi s =>
          .ok () ((s.setDecoded (setMapEntry mi j (hi ++ (0 : Nibble)))).goto (.mapEntryLow mi j)) := by
        rw [codecStep_inCommand htop, substateStep, hsub, ← nibbleOf_high]
        show mapHighStep mi j s = _
        rw [mapHighStep, priorCmapEntry_eq]
        rfl
      refine codedStep_of_codeNibble hcan hstep fun b coded hf ⟨hcodec, hctx, hctl⟩ hblend hk =>
        ⟨coded, hblend, hk.trans ?_⟩
      have hdec : coded.isDecode = s.isDecode := by rw [State.isDecode, hctl]; rfl
      rw [setDecoded_goto, nibbles_append, hstored, hdec, hcodec, hctx]
      rfl
    case low =>
      have hstep : codecStep s = (codeNibble (first + 2 + hi) 4 (BitVec.ofNat 4 (e.toNat % 16)) s).bind fun lo s =>
          .ok () (entryDone mi j (if s.isDecode then nibbleOf e 0 ++ lo else mapEntry mi j s.codec.cmd) s) := by
        rw [codecStep_inCommand htop, substateStep, hsub, ← nibbleOf_low, ← hhi, Nat.add_assoc]
        show mapLowStep mi j s = _
        rw [mapLowStep, priorCmapEntry_eq]
        rfl
      refine codedStep_of_codeNibble hcan hstep fun b coded hf ⟨hcodec, hctx, hctl⟩ hblend hk =>
        ⟨coded, _, hblend, hk, ?_⟩
      obtain ⟨-, -, -, -, hlit, hdist⟩ := s.memoriesCanonical_iff.mp hcan
      have hdec : coded.isDecode = s.isDecode := by rw [State.isDecode, hctl]; rfl
      rw [nibbles_append, hhi, hdec, hcodec]
      exact entryDone_entryCompleted (hctx ▸ hlit) (hctx ▸ hdist) mi j _
  case value =>
    intro k
    obtain ⟨hpos, hle, hholds, hleast⟩ := nibbleCount_bounds hv
    exact ⟨hpos, hle, hholds, hleast, mantissa_roundTrip hv hle hholds⟩

end Sys2Proof.Machine
end

section
/-! SUPPORT. The codec steps that read a value table (R262, R264 to R267, R269, R281, R287, R288, R301, R304, R320,
R322): each codes the nibble of `State.tableNibble` and does its row, which always answers where its table is read. -/

namespace Sys2Proof.Machine

/-! ### The nibble an encoder finds in a list -/

/-- The least index of a search is the place of the element found in the list searched. -/
theorem leastIndex_eq_findIdx {α : Type} {l : List α} {p : α → Bool} {q : Nat → Bool}
    (hq : ∀ i (h : i < l.length), q i = p l[i]) : leastIndex l.length q = l.findIdx p := by
  refine leastIndex_eq List.findIdx_le_length (fun i hi => ?_) fun hfound => ?_
  · rw [hq i (hi.trans_le List.findIdx_le_length)]
    simpa using List.not_of_lt_findIdx hi
  · rw [hq _ hfound]
    exact List.findIdx_getElem

/-- The mnemonic chosen is the place of the distance among the mnemonic values (R287). -/
theorem mnemonicWant_eq (lru : Vector (BitVec 32) 4) (d : BitVec 32) :
    mnemonicWant lru d = BitVec.ofNat 4 ((mnemonicValues lru).findIdx fun v =>
      decide (v = (d.toNat : Int) ∧ 1 ≤ v ∧ v ≤ 4294967295)) := by
  unfold mnemonicWant
  rw [← leastIndex_eq_findIdx (l := mnemonicValues lru) fun i hi => ?_]
  · rfl
  · have hlen : i < 15 := hi
    have hval : mnemonicValue lru (Fin.ofNat 15 i) = (mnemonicValues lru)[i] := by
      rw [mnemonicValue_eq, Fin.val_ofNat, Nat.mod_eq_of_lt hlen, getElem!_pos (mnemonicValues lru) i hi]
      rfl
    rw [Bool.eq_iff_iff]
    simp only [hval, Bool.and_eq_true, validDistance_iff, decide_eq_true_eq]
    exact and_comm

/-- The map mnemonic chosen is the place of the entry in the cache (R322). -/
theorem cmapWant_eq (lru : Vector Byte 13) (e : Byte) :
    cmapWant lru e = BitVec.ofNat 4 (lru.toList.findIdx fun x => decide (x = e)) := by
  unfold cmapWant
  rw [← leastIndex_eq_findIdx (l := lru.toList) fun i hi => ?_, Vector.length_toList]
  have hlen : i < 13 := by simpa using hi
  rw [Vector.getElem?_eq_getElem hlen, Vector.getElem_toList]
  simp only [Option.some_inj]

/-! ### The nibble of a table -/

section
variable {s : State}

/-- Code the nibble and do its row (R262). -/
def TableNibble.step (n : TableNibble) (s : State) : Reply Unit := tableStep n.table n.cell n.speed n.want s

theorem IntUser.copyStyle_eq (u : IntUser) : u.copyStyle = decide (u = .copyCount) := by
  cases u <;> simp [IntUser.copyStyle]

theorem repeatApplies_iff (s : State) :
    s.repeatApplies = true ↔
      s.ctl.cfg.getLsbD 4 = true ∧ s.codec.cmd.numBytes = 1 ∧ s.codec.cmd.distance = s.ctx.distanceLru[0] := by
  simp only [State.repeatApplies, State.copyRepeatEsc, Bool.and_eq_true, decide_eq_true_eq, and_assoc]

/-- A stage of a user codes the nibble of its table (R264 to R267, R269, R281). -/
theorem intStep_eq_step {u : IntUser} {stage : IntStage} {n : TableNibble} (h : stage.tableNibble u s = some n) :
    intStep u stage s = n.step s ∧ stage.table u.copyStyle = some n.table := by
  cases stage with
  | small =>
    cases h
    refine ⟨?_, rfl⟩
    simp only [intStep, TableNibble.step, u.prior_eq_cells, IntStage.pos, IntStage.speed, IntUser.want, smallWant,
      u.value_eq_operand, repeatApplies_iff, IntUser.t1, u.copyStyle_eq, decide_eq_true_eq, Nat.add_zero]
  | first =>
    cases h
    simp only [intStep, TableNibble.step, u.prior_eq_cells, IntStage.pos, IntStage.speed, IntUser.want,
      u.value_eq_operand, u.copyStyle_eq, IntStage.table, and_self]
  | greater =>
    cases h
    simp only [intStep, TableNibble.step, u.prior_eq_cells, IntStage.pos, IntStage.speed, IntUser.want,
      u.value_eq_operand, u.copyStyle_eq, IntStage.table, IntUser.t2, and_self]
  | mantissaHeader =>
    cases h
    simp only [intStep, TableNibble.step, u.prior_eq_cells, IntStage.pos, IntStage.speed, IntUser.want,
      u.value_eq_operand, IntStage.table, and_true]
    rfl
  | mantissaNibbles ld lr dsf => cases h

theorem tableNibble_at {u : IntUser} {stage : IntStage} (htop : s.codec.top = .inCommand)
    (hsub : s.codec.substate = u.at stage) : s.tableNibble = stage.tableNibble u s := by
  unfold State.tableNibble
  rw [htop, hsub]
  cases u <;> cases stage <;> rfl

theorem expects_of_substate_table {t : NibbleTable} (htop : s.codec.top = .inCommand)
    (ht : s.codec.substate.table = some t) (hf : s.ctl.failed = false) : s.expects = some t := by
  simp [State.expects, hf, htop, ht]

/-- Where the next step reads a table, it codes the nibble of that table and does its row. -/
theorem codecStep_tableNibble {n : TableNibble} (h : s.tableNibble = some n) :
    codecStep s = n.step s ∧ (s.ctl.failed = false → s.expects = some n.table) := by
  cases htop : s.codec.top with
  | topEof => simp [State.tableNibble, htop] at h
  | topBegin =>
    simp only [State.tableNibble, htop, Option.some.injEq] at h
    subst h
    refine ⟨?_, fun hf => by simp [State.expects, hf, htop]⟩
    rw [codecStep, htop]
    show typeStep s = _
    rw [typeStep, priorCmdType, Nat.zero_add]
    rfl
  | inCommand =>
    cases hstage : s.codec.substate.intStage with
    | some p =>
      obtain ⟨u, stage⟩ := p
      have hsub := Substate.eq_at_of_intStage hstage
      rw [tableNibble_at htop hsub] at h
      obtain ⟨hstep, htable⟩ := intStep_eq_step h
      rw [codecStep_at htop hsub]
      exact ⟨hstep, expects_of_substate_table htop (by rw [hsub, u.at_table, htable])⟩
    | none =>
      rw [codecStep_inCommand htop]
      unfold State.tableNibble at h
      rw [htop] at h
      cases hsub : s.codec.substate with
      | distanceLengthMnemonic =>
        rw [hsub] at h
        obtain ⟨slot, hslot, rfl⟩ := Option.map_eq_some_iff.mp h
        refine ⟨?_, expects_of_substate_table htop (by rw [hsub]; rfl)⟩
        rw [substateStep, hsub]
        show distanceMnemonicStep s = _
        rw [distanceMnemonicStep, withDistSlot_some hslot, priorDistance_eq, mnemonicWant_eq]
        rfl
      | distanceLengthFirst =>
        rw [hsub] at h
        obtain ⟨slot, hslot, rfl⟩ := Option.map_eq_some_iff.mp h
        refine ⟨?_, expects_of_substate_table htop (by rw [hsub]; rfl)⟩
        rw [substateStep, hsub]
        show distanceHeaderStep s = _
        rw [distanceHeaderStep, withDistSlot_some hslot, priorDistance_eq]
        rfl
      | literalHighEntropy | predMode | predSpeedStride | predSpeedCm =>
        rw [hsub] at h
        cases h
        refine ⟨?_, expects_of_substate_table htop (by rw [hsub]; rfl)⟩
        rw [substateStep, hsub]
        rfl
      | mapEntryMnemonic mi j =>
        rw [hsub] at h
        cases h
        refine ⟨?_, expects_of_substate_table htop (by rw [hsub]; rfl)⟩
        rw [substateStep, hsub]
        show mapMnemonicStep mi j s = _
        rw [mapMnemonicStep, priorCmapEntry_eq, cmapWant_eq]
        rfl
      | begin | countDecoded | distanceMantissaNibbles | literalNibbleIndex | blockTypeHigh | blockTypeLow
        | mapEntryHigh | mapEntryLow | fullyDecoded =>
        rw [hsub] at h
        cases h
      | _ =>
        rw [hsub] at hstage
        cases hstage

/-! ### A row answers where its table is read -/

/-- The reply is neither refused nor a fault. -/
def Reply.Answers {α : Type} : Reply α → Prop
  | .refused _ => False
  | .fault _ => False
  | _ => True

theorem Reply.Answers.rowOutcome {x : Reply Unit} (h : x.Answers) : ∃ t, x.rowOutcome = .next t := by
  cases x with
  | refused r => exact h.elim
  | fault f => exact h.elim
  | _ => exact ⟨_, rfl⟩

theorem Reply.Answers.ite {α : Type} {p : Prop} [Decidable p] {x y : Reply α} (hx : x.Answers) (hy : y.Answers) :
    (if p then x else y).Answers := by
  split
  · exact hx
  · exact hy

theorem raise_answers {α : Type} (c : Cause) (s : State) : (raise c s : Reply α).Answers := trivial

theorem complete_answers (u : IntUser) (v : BitVec 32) : (u.complete v s).Answers := by
  cases u with
  | copyCount => trivial
  | literalLen => exact .ite (raise_answers _ s) trivial
  | dictField f => trivial
  | mapCount mi => exact .ite (raise_answers _ s) (.ite trivial (.ite trivial trivial))

theorem withUser_answers {u : IntUser} {stage : IntStage} (hsub : s.codec.substate = u.at stage)
    {k : IntUser → Reply Unit} (hk : (k u).Answers) : (withUser s k).Answers := by rwa [withUser_at hsub]

theorem withEntry_answers {mi : MapId} {j : Nat} (hsub : s.codec.substate = .mapEntryMnemonic mi j)
    {k : MapId → Nat → Reply Unit} (hk : (k mi j).Answers) : (withEntry s k).Answers := by rwa [withEntry_at hsub]

/-- A table of the tiered integer is read at a stage of a user, or at the header of an explicit distance. -/
theorem Substate.integer_table_cases {x : Substate} {t : NibbleTable} (h : x.table = some t)
    (ht : t ∈ integerTables) : (t = .header ∧ x = .distanceLengthFirst) ∨ ∃ u stage, x = IntUser.at u stage := by
  cases hx : x.intStage with
  | some p => exact .inr ⟨p.1, p.2, Substate.eq_at_of_intStage hx⟩
  | none => cases x <;> cases hx <;> cases h <;> simp at ht ⊢

/-- A row of a table of the tiered integer answers at a stage of a user. -/
theorem integerRow_answers {u : IntUser} {stage : IntStage} (hsub : s.codec.substate = u.at stage) {t : NibbleTable}
    (ht : t ∈ integerTables) (v : Nibble) : (rowBody t v s).Answers := by
  have first : (firstNibble v.toNat s).Answers :=
    withUser_answers hsub (.ite (raise_answers _ s) (complete_answers u _))
  have greater : (greaterNibble v.toNat s).Answers :=
    withUser_answers hsub (.ite (raise_answers _ s) (complete_answers u _))
  have goto (next : IntStage) : (smallGoto next s).Answers := withUser_answers hsub trivial
  cases t with
  | small =>
    unfold rowBody
    dsimp only
    repeat' split
    · exact withUser_answers hsub (complete_answers u _)
    · exact goto _
    · exact goto _
    · exact withUser_answers hsub (.ite trivial (raise_answers _ s))
    · exact goto _
    · exact raise_answers _ s
  | firstCopy => exact first
  | firstLit => exact first
  | greaterCopy => exact greater
  | greaterLit => exact greater
  | header => exact .ite (raise_answers _ s) (.ite trivial (withUser_answers hsub trivial))
  | _ => simp at ht

theorem rowBody_answers {t : NibbleTable} (h : s.expects = some t) (v : Nibble) : (rowBody t v s).Answers := by
  by_cases htype : t = .cmdType
  · subst htype
    unfold rowBody
    dsimp only
    split <;> trivial
  obtain ⟨-, htable⟩ := State.expects_inCommand h htype
  by_cases hint : t ∈ integerTables
  · rcases Substate.integer_table_cases htable hint with ⟨rfl, hsub⟩ | ⟨u, stage, hsub⟩
    · have hgoto : headerNibble v.toNat s = _ := congrArg (ite _ _) (if_pos hsub)
      rw [rowBody, hgoto]
      exact .ite (raise_answers _ s) trivial
    · exact integerRow_answers hsub hint v
  · rcases Substate.table_cases htable hint with
      ⟨rfl, -⟩ | ⟨rfl, -⟩ | ⟨rfl, -⟩ | ⟨rfl, -⟩ | ⟨rfl, mi, j, hsub⟩
    · unfold rowBody
      dsimp only
      split
      · exact .ite trivial (raise_answers _ s)
      · trivial
    · unfold rowBody
      dsimp only
      repeat' split
      all_goals trivial
    · unfold rowBody
      dsimp only
      split <;> trivial
    · unfold rowBody
      dsimp only
      split
      · exact .ite trivial trivial
      · trivial
    · unfold rowBody
      dsimp only
      repeat' split
      · exact withEntry_answers hsub trivial
      · exact withEntry_answers hsub trivial
      · trivial

theorem exec_decodeNibble_answers {t : NibbleTable} (h : s.expects = some t) (v : Nibble) :
    ∃ u, exec (decodeNibble t v) s = .next u := by
  rw [exec_decodeNibble h]
  exact (rowBody_answers h v).rowOutcome

/-- Inside a command a row that answers `u` is followed by the next step, or ends the command where it failed. -/
theorem applyRow_of_exec {t : NibbleTable} {v : Nibble} {u : State} (h : exec (decodeNibble t v) s = .next u) :
    applyRow t v s = if u.ctl.failed then .fail u else .ok () u := by
  rw [exec_eq_nibbleMeaning (encode_decodeNibble t v)] at h
  rw [applyRow, h]

theorem State.expects_congr {t : State} (hctl : t.ctl = s.ctl) (hcodec : t.codec = s.codec) :
    t.expects = s.expects := by
  simp only [State.expects, hctl, hcodec]

/-- A step that reads a table codes its nibble and does what the row of the nibble does (R262; log 2). -/
theorem tableNibble_codedStep {n : TableNibble} (hcan : s.memoriesCanonical = true) (h : s.tableNibble = some n)
    (v : Nibble) :
    s.codedStep (s.prior n.cell) n.want v (codecStep s) fun b =>
      ∃ coded t, b.blendedAs n.cell n.speed v coded ∧ exec (decodeNibble n.table v) coded = .next t ∧
        codecStep s = if t.ctl.failed then .fail t else .ok () t := by
  obtain ⟨hstep, hexpects⟩ := codecStep_tableNibble h
  refine codedStep_of_codeNibble (k := applyRow n.table) hcan hstep
    fun b coded hf ⟨hcodec, _, hctl⟩ hblend hk => ?_
  obtain ⟨t, ht⟩ := exec_decodeNibble_answers ((State.expects_congr hctl hcodec).trans (hexpects hf)) v
  exact ⟨coded, t, hblend, ht, hk.trans (applyRow_of_exec ht)⟩

/-! ### The steps that code no nibble -/

/-- `Begin` goes to the first substate of the command (R300). -/
theorem codecStep_begin {k : Nibble} {x : Substate} (htop : s.codec.top = .inCommand) (hsub : s.codec.substate = .begin)
    (hkind : s.codec.cmd.kind = k) (hx : (k, x) ∈ [((1 : Nibble), Substate.countSmall), (2, .dictField 0 .small),
      (3, .literalCountSmall), (4, .blockTypeHigh), (5, .blockTypeHigh), (6, .blockTypeHigh), (7, .predMode),
      (15, .fullyDecoded)]) : codecStep s = .ok () (s.goto x) := by
  rw [codecStep_inCommand htop, substateStep, hsub]
  show beginStep s = _
  rw [beginStep, hkind]
  simp only [List.mem_cons, List.not_mem_nil, or_false, Prod.mk.injEq] at hx
  rcases hx with
    ⟨rfl, rfl⟩ | ⟨rfl, rfl⟩ | ⟨rfl, rfl⟩ | ⟨rfl, rfl⟩ | ⟨rfl, rfl⟩ | ⟨rfl, rfl⟩ | ⟨rfl, rfl⟩ | ⟨rfl, rfl⟩ <;>
    rfl

/-- `CountDecoded` and the three steps of a distance look its slot up first (R285). -/
theorem codecStep_distance (htop : s.codec.top = .inCommand)
    (hsub : s.codec.substate = .countDecoded ∨ s.codec.substate = .distanceLengthMnemonic ∨
      s.codec.substate = .distanceLengthFirst ∨ ∃ ld lr dsf, s.codec.substate = .distanceMantissaNibbles ld lr dsf) :
    ∃ k, codecStep s = withDistSlot s k := by
  rw [codecStep_inCommand htop, substateStep]
  rcases hsub with hsub | hsub | hsub | ⟨ld, lr, dsf, hsub⟩ <;> rw [hsub] <;> exact ⟨_, rfl⟩

theorem codecStep_countDecoded (htop : s.codec.top = .inCommand) (hsub : s.codec.substate = .countDecoded) {slot : Nat}
    (hslot : s.distSlot? = some slot) : codecStep s = .ok () (s.goto .distanceLengthMnemonic) := by
  rw [codecStep_inCommand htop, substateStep, hsub]
  exact withDistSlot_some hslot _

end

end Sys2Proof.Machine
end

section
/-! SUPPORT. `ENCODE_CMD` of a Copy at the most recent distance (R280, R285 to R287, R290, R292), with room in
`DIRECT16` mode: five codec steps, of which three buffer a symbol and blend its cell. -/

namespace Sys2Proof.Machine

/-! ### A table step with room -/

/-- The encoder of a `DIRECT16` session has room for `n` symbols (R171, R245). -/
structure State.RoomFor (n : Nat) (s : State) : Prop where
  encoding : s.encoding
  direct16 : s.direct16 = true
  unfinished : s.ctl.encFinished = false
  room : s.ans2.symCount.toNat + n ≤ 16384

/-- The cell gives every symbol an interval (R218). -/
def codingCell (x : Cdf16) : Prop := validCell x = true ∧ ∀ i < 16, 2 ≤ pdf x i

/-- ANS2 with the interval of the symbol `v` of the cell `x` buffered (R171, R245). -/
def Ans2.buffered (x : Cdf16) (v : Nat) (a : Ans2) : Ans2 := a.bufferSym (symStart x v) (symFreq x v)

/-- The state after `v` is buffered as a symbol of the cell at `a` and the cell is blended (R262). -/
def State.encoded (a : Nat) (speed : BitVec 3) (v : Nibble) (s : State) : State :=
  ({ s with ans2 := s.ans2.buffered (s.prior a) v.toNat } : State).setPrior a (blend (s.prior a) v.toNat speed)

section
variable {s : State} {m : Nat}

theorem codeNibble_room (hroom : s.RoomFor (m + 1)) {a : Nat} (hcell : codingCell (s.prior a)) (speed : BitVec 3)
    (want : Nibble) : codeNibble a speed want s = .ok want (s.encoded a speed want) := by
  obtain ⟨⟨hf, he⟩, hdirect, hopen, hcount⟩ := hroom
  have hcan : s.canCode (s.prior a) want want :=
    ⟨hf, hdirect, hcell.1, hcell.2, fun _ => ⟨hopen, by omega, rfl⟩, fun hd => absurd (he.symm.trans hd) (by decide)⟩
  obtain ⟨e, ⟨hencoded, -⟩, hcode⟩ := codeAgainst_of_canCode hcan
  rw [codeNibble, hcode, hencoded he]
  rfl

/-- With room the step that reads a table goes on to what the row of the nibble wanted leaves. -/
theorem codecStep_room {n : TableNibble} {t : State} (h : s.tableNibble = some n) (hroom : s.RoomFor (m + 1))
    (hcell : codingCell (s.prior n.cell))
    (hrow : (s.encoded n.cell n.speed n.want).expects = some n.table →
      exec (decodeNibble n.table n.want) (s.encoded n.cell n.speed n.want) = .next t)
    (ht : t.ctl.failed = false) : codecStep s = .ok () t := by
  obtain ⟨hstep, hexpects⟩ := codecStep_tableNibble h
  have hexec := hrow (hexpects hroom.encoding.1)
  rw [hstep, TableNibble.step, tableStep, codeNibble_room hroom hcell]
  show applyRow n.table n.want _ = _
  rw [applyRow_of_exec hexec, ht]
  rfl

theorem Ans2.toNat_buffered_symCount (x : Cdf16) (v : Nat) {a : Ans2} (h : a.symCount.toNat < 16384) :
    (a.buffered x v).symCount.toNat = a.symCount.toNat + 1 := by
  show (a.symCount + 1).toNat = _
  bv_omega

/-! ### The steps of the Copy -/

/-- The Copy of `n` bytes at the most recent distance. -/
def State.recentCopy (n : BitVec 32) (s : State) : Command :=
  { Command.blank 1 with distance := s.ctx.distanceLru[0], numBytes := n }

/-- The cell of the type (R301). -/
def State.typeCell (s : State) : Nat := s.ctx.btypeCmd.toNat * 16 + s.ctx.lastCmd.toNat

/-- The cell of the Small nibble of the count of a Copy (R269). -/
def State.countCell (s : State) : Nat := 4096 + s.ctx.btypeCmd.toNat * 12

/-- The session of `s` inside that Copy, at the substate `x`, with `e` in ANS2 and the priors `p`. -/
def State.copying (n : BitVec 32) (e : Ans2) (p : Memory Cdf16) (x : Substate) (s : State) : State :=
  { s.lock with
    ctx := { s.ctx with lastCmd := 1 }
    codec := { top := .inCommand, substate := x, cmd := s.recentCopy n }
    model := { s.model with priors := p }
    ans2 := e }

section
variable {n : BitVec 32} {e : Ans2} {p : Memory Cdf16}

theorem State.RoomFor.copying (h : s.RoomFor m) (x : Substate) {k : Nat} (he : e.symCount.toNat + k ≤ 16384) :
    (s.copying n e p x).RoomFor k := ⟨h.encoding, h.direct16, h.unfinished, he⟩

theorem beginCommand_of_encode (k : Nibble) (h : s.isDecode = false) :
    beginCommand k s =
      .ok () { s with
        ctx := { s.ctx with lastCmd := k }
        codec := { top := .inCommand, substate := .begin, cmd := { s.codec.cmd with kind := k } } } := by
  rw [beginCommand, h]
  rfl

theorem State.encoded_copying (a : Nat) (speed : BitVec 3) (v : Nibble) (x : Substate) :
    (s.copying n e p x).encoded a speed v =
      s.copying n (e.buffered (Memory.read defaultCdf p a) v.toNat)
        (Memory.write defaultCdf p a (blend (Memory.read defaultCdf p a) v.toNat speed)) x := rfl

theorem intResult_copying (x : Substate) :
    intResult .copyCount n.toNat (s.copying n e p x) = s.copying n e p .countDecoded := by
  simp only [intResult, BitVec.ofNat_toNat, BitVec.setWidth_eq]
  rfl

/-- The place a value in front moves from is the front. -/
theorem touch_head {α : Type} [DecidableEq α] {k : Nat} (lru : Vector α (k + 1)) : touch lru lru[0] = lru := by
  have hplace : touchedPlace lru lru[0] = 0 := touchedPlace_eq (j := 0) (fun i hi => absurd hi (by simp)) fun _ => rfl
  refine Vector.ext fun i hi => ?_
  by_cases h0 : i = 0
  · subst h0
    exact touch_front _ _
  · exact touch_of_touchedPlace_lt (i := ⟨i, hi⟩) (by rw [hplace]; exact Nat.pos_of_ne_zero h0)

theorem copyDone_copying (x : Substate) :
    copyDone s.ctx.distanceLru[0] (s.copying n e p x) = s.copying n e p .fullyDecoded := by
  have htouch : touch s.ctx.distanceLru s.ctx.distanceLru[0] = s.ctx.distanceLru := touch_head _
  show State.withCodec (s.copying n e p x) .fullyDecoded (s.recentCopy n)
    { s.ctx with lastCmd := 1, distanceLru := touch s.ctx.distanceLru s.ctx.distanceLru[0] } = _
  rw [htouch]
  rfl

/-- The type step: nibble 1 opens the Copy (R301). -/
theorem codecStep_copyType (hroom : s.RoomFor (m + 1)) (htop : s.codec.top = .topBegin)
    (hcell : codingCell (s.prior s.typeCell)) :
    codecStep (s.lock.setCmd fun _ => s.recentCopy n) =
      .ok () (s.copying n (s.ans2.buffered (s.prior s.typeCell) 1)
        (Memory.write defaultCdf s.model.priors s.typeCell (blend (s.prior s.typeCell) 1 5)) .begin) := by
  have htable : (s.lock.setCmd fun _ => s.recentCopy n).tableNibble = some ⟨.cmdType, s.typeCell, 5, 1⟩ := by
    simp only [State.tableNibble, State.setCmd_codec, State.lock_codec, htop]
    rfl
  refine codecStep_room htable (m := m) ⟨hroom.encoding, hroom.direct16, hroom.unfinished, hroom.room⟩ hcell
    (fun hx => ?_) hroom.encoding.1
  rw [exec_decodeNibble hx, rowBody, if_pos (show (1 : Nibble) ∈ commandKinds by decide)]
  exact congrArg Reply.rowOutcome (beginCommand_of_encode
    (s := (s.lock.setCmd fun _ => s.recentCopy n).encoded s.typeCell 5 1) 1 hroom.encoding.2)

theorem codecStep_copyBegin :
    codecStep (s.copying n e p .begin) = .ok () (s.copying n e p .countSmall) :=
  codecStep_begin rfl rfl (k := 1) (x := .countSmall) rfl (by decide)

/-- The count is its own Small nibble (R264). -/
theorem codecStep_copyCount (hroom : (s.copying n e p .countSmall).RoomFor (m + 1))
    (hesc : s.ctl.cfg.getLsbD 4 = false) (hn : n.toNat ≤ 9) {x : Cdf16}
    (hx : Memory.read defaultCdf p s.countCell = x) (hcell : codingCell x) :
    codecStep (s.copying n e p .countSmall) =
      .ok () (s.copying n (e.buffered x n.toNat)
        (Memory.write defaultCdf p s.countCell (blend x n.toNat 5)) .countDecoded) := by
  have hwant : (BitVec.ofNat 4 n.toNat).toNat = n.toNat := by
    rw [BitVec.toNat_ofNat, Nat.mod_eq_of_lt (by omega)]
  have htable : (s.copying n e p .countSmall).tableNibble =
      some ⟨.small, s.countCell, 5, BitVec.ofNat 4 n.toNat⟩ := by
    show IntStage.tableNibble .copyCount .small _ = _
    have hcfg : (s.copying n e p .countSmall).ctl.cfg.getLsbD 4 = false := hesc
    have hv : IntUser.operand .copyCount (s.copying n e p .countSmall).codec.cmd = n.toNat := rfl
    simp only [IntStage.tableNibble, hcfg, hv, if_pos hn]
    rfl
  subst hx
  refine codecStep_room htable hroom hcell (fun h => ?_) hroom.encoding.1
  rw [State.encoded_copying] at h ⊢
  rw [exec_small_value (u := .copyCount) h rfl (hwant.le.trans hn), hwant, intResult_copying]

theorem codecStep_copyCountDecoded (hmap : s.ctx.distCmapLen = 0) :
    codecStep (s.copying n e p .countDecoded) = .ok () (s.copying n e p .distanceLengthMnemonic) :=
  codecStep_countDecoded rfl rfl (slot := 0) (if_pos hmap)

/-- The most recent distance is mnemonic 0, and stays in front (R287, R290, R74). -/
theorem codecStep_copyMnemonic (hroom : (s.copying n e p .distanceLengthMnemonic).RoomFor (m + 1))
    (hmap : s.ctx.distCmapLen = 0) (hd : s.ctx.distanceLru[0] ≠ 0) {x : Cdf16}
    (hx : Memory.read defaultCdf p 7168 = x) (hcell : codingCell x) :
    codecStep (s.copying n e p .distanceLengthMnemonic) =
      .ok () (s.copying n (e.buffered x 0) (Memory.write defaultCdf p 7168 (blend x 0 5)) .fullyDecoded) := by
  have hpos : 1 ≤ s.ctx.distanceLru[0].toNat :=
    Nat.one_le_iff_ne_zero.mpr fun h0 => hd (BitVec.eq_of_toNat_eq h0)
  have hmax := s.ctx.distanceLru[0].isLt
  have htable : (s.copying n e p .distanceLengthMnemonic).tableNibble = some ⟨.distMnemonic, 7168, 5, 0⟩ := by
    have hslot : (s.copying n e p .distanceLengthMnemonic).distSlot? = some 0 := if_pos hmap
    have hvalid : (s.ctx.distanceLru[0].toNat : Int) = s.ctx.distanceLru[0].toNat ∧
        1 ≤ (s.ctx.distanceLru[0].toNat : Int) ∧ (s.ctx.distanceLru[0].toNat : Int) ≤ 4294967295 := by omega
    have hfind : ((mnemonicValues s.ctx.distanceLru).findIdx fun v =>
        decide (v = (s.ctx.distanceLru[0].toNat : Int) ∧ 1 ≤ v ∧ v ≤ 4294967295)) = 0 :=
      List.findIdx_cons.trans (Bool.cond_pos (decide_eq_true hvalid))
    show (State.distSlot? _).map _ = _
    rw [hslot]
    exact congrArg (fun i => some (⟨.distMnemonic, 7168, 5, BitVec.ofNat 4 i⟩ : TableNibble)) hfind
  subst hx
  refine codecStep_room htable hroom hcell (fun h => ?_) hroom.encoding.1
  rw [State.encoded_copying] at h ⊢
  rw [exec_distMnemonic h (m := 0) (by decide) (v := s.ctx.distanceLru[0].toNat) rfl, if_pos (by omega),
    BitVec.ofInt_natCast, BitVec.ofNat_toNat, BitVec.setWidth_eq, copyDone_copying]
  rfl

end

/-! ### The run of the Copy -/

theorem runCodec_succ {t : State} (hopen : ¬ (s.codec.top = .inCommand ∧ s.codec.substate = .fullyDecoded))
    (h : codecStep s = .ok () t) (k : Nat) : runCodec (k + 1) s = runCodec k t := by
  rw [runCodec, if_neg hopen, h]
  rfl

theorem runCodec_copying (n : BitVec 32) (e : Ans2) (p : Memory Cdf16) {x y : Substate} {e' : Ans2} {p' : Memory Cdf16}
    (hx : x ≠ .fullyDecoded) (h : codecStep (s.copying n e p x) = .ok () (s.copying n e' p' y)) (k : Nat) :
    runCodec (k + 1) (s.copying n e p x) = runCodec k (s.copying n e' p' y) :=
  runCodec_succ (fun hlast => hx hlast.2) h k

/-- ANS2 after the Copy: the type, the count and the mnemonic are buffered (R171). -/
def State.copySymbols (n : BitVec 32) (s : State) : Ans2 :=
  ((s.ans2.buffered (s.prior s.typeCell) 1).buffered (s.prior s.countCell) n.toNat).buffered (s.prior 7168) 0

/-- The priors after the Copy: the cells of the type, the count and the mnemonic are blended (R262). -/
def State.copyPriors (n : BitVec 32) (s : State) : Memory Cdf16 :=
  Memory.write defaultCdf
    (Memory.write defaultCdf
      (Memory.write defaultCdf s.model.priors s.typeCell (blend (s.prior s.typeCell) 1 5))
      s.countCell (blend (s.prior s.countCell) n.toNat 5))
    7168 (blend (s.prior 7168) 0 5)

theorem State.typeCell_lt_countCell (s : State) : s.typeCell < s.countCell := by
  unfold State.typeCell State.countCell
  omega

theorem State.countCell_lt (s : State) : s.countCell < 7168 := by
  unfold State.countCell
  omega

/-- A session at a boundary, with room for the three symbols, in which the Copy is coded by three coding cells: its
count is a Small nibble, and its distance needs no map and no repeat escape (R281, R285). -/
structure State.TakesRecentCopy (n : BitVec 32) (s : State) : Prop where
  room : s.RoomFor 3
  canonical : s.memoriesCanonical = true
  boundary : s.codec.top = .topBegin
  noEscape : s.ctl.cfg.getLsbD 4 = false
  short : n.toNat ≤ 9
  distance : s.ctx.distanceLru[0] ≠ 0
  noMap : s.ctx.distCmapLen = 0
  typeCell : codingCell (s.prior s.typeCell)
  countCell : codingCell (s.prior s.countCell)
  mnemonicCell : codingCell (s.prior 7168)

theorem runCodec_copy {n : BitVec 32} (h : s.TakesRecentCopy n) (k : Nat) :
    runCodec (k + 6) (s.lock.setCmd fun _ => s.recentCopy n) =
      .ok () (fullyDecodedStep (s.copying n (s.copySymbols n) (s.copyPriors n) .fullyDecoded)) := by
  obtain ⟨hroom, hcan, htop, hesc, hn, hd, hmap, htype, hcount, hmnemonic⟩ := h
  obtain ⟨-, -, -, ⟨hwf, -⟩, -⟩ := s.memoriesCanonical_iff.mp hcan
  have hlt1 := s.typeCell_lt_countCell
  have hlt2 := s.countCell_lt
  have hread2 : Memory.read defaultCdf (Memory.write defaultCdf s.model.priors s.typeCell
      (blend (s.prior s.typeCell) 1 5)) s.countCell = s.prior s.countCell :=
    (Memory.read_write hwf _ _ _).trans (if_neg (by omega))
  have hread3 : Memory.read defaultCdf (Memory.write defaultCdf (Memory.write defaultCdf s.model.priors s.typeCell
      (blend (s.prior s.typeCell) 1 5)) s.countCell (blend (s.prior s.countCell) n.toNat 5)) 7168 = s.prior 7168 := by
    rw [Memory.read_write (Memory.wf_write _ _ hwf), if_neg (by omega), Memory.read_write hwf, if_neg (by omega)]
    rfl
  have hsyms := hroom.room
  have hsyms1 := Ans2.toNat_buffered_symCount (s.prior s.typeCell) 1 (a := s.ans2) (by omega)
  have hsyms2 := Ans2.toNat_buffered_symCount (s.prior s.countCell) n.toNat
    (a := s.ans2.buffered (s.prior s.typeCell) 1) (by omega)
  have hopen : ¬ ((s.lock.setCmd fun _ => s.recentCopy n).codec.top = .inCommand ∧
      (s.lock.setCmd fun _ => s.recentCopy n).codec.substate = .fullyDecoded) :=
    fun hlast => absurd (htop.symm.trans hlast.1) (by decide)
  rw [runCodec_succ hopen (codecStep_copyType hroom htop htype),
    runCodec_copying _ _ _ (by decide) codecStep_copyBegin,
    runCodec_copying _ _ _ (by decide) (codecStep_copyCount (m := 1) (hroom.copying .countSmall (by omega)) hesc hn
      hread2 hcount),
    runCodec_copying _ _ _ (by decide) (codecStep_copyCountDecoded hmap),
    runCodec_copying _ _ _ (by decide) (codecStep_copyMnemonic (m := 0)
      (hroom.copying .distanceLengthMnemonic (by omega)) hmap hd hread3 hmnemonic),
    runCodec, if_pos ⟨rfl, rfl⟩]
  rfl

/-- Three different cells read as written, every other as before. -/
theorem Memory.read_write_three {α : Type} [DecidableEq α] {d : α} {mem : Memory α} (h : Memory.wf d mem = true)
    {a b c : Nat} (hab : a < b) (hbc : b < c) (x y z : α) (i : Nat) :
    Memory.read d (Memory.write d (Memory.write d (Memory.write d mem a x) b y) c z) i =
      if i = a then x else if i = b then y else if i = c then z else Memory.read d mem i := by
  rw [Memory.read_write (Memory.wf_write _ _ (Memory.wf_write _ _ h)), Memory.read_write (Memory.wf_write _ _ h),
    Memory.read_write h]
  grind

theorem read_copyPriors (n : BitVec 32) (hcan : s.memoriesCanonical = true) (a : Nat) :
    Memory.read defaultCdf (s.copyPriors n) a =
      if a = s.typeCell then blend (s.prior s.typeCell) 1 5
      else if a = s.countCell then blend (s.prior s.countCell) n.toNat 5
      else if a = 7168 then blend (s.prior 7168) 0 5
      else s.prior a := by
  obtain ⟨-, -, -, ⟨hwf, -⟩, -⟩ := s.memoriesCanonical_iff.mp hcan
  exact Memory.read_write_three hwf s.typeCell_lt_countCell s.countCell_lt _ _ _ a

theorem read_copySymbols (n : BitVec 32) (hcan : s.memoriesCanonical = true)
    (hroom : s.ans2.symCount.toNat + 3 ≤ 16384) (i : Nat) :
    Memory.read SymCell.zero (s.copySymbols n).symbuf i =
      if i = s.ans2.symCount.toNat then ⟨symStart (s.prior s.typeCell) 1, symFreq (s.prior s.typeCell) 1⟩
      else if i = s.ans2.symCount.toNat + 1 then
        ⟨symStart (s.prior s.countCell) n.toNat, symFreq (s.prior s.countCell) n.toNat⟩
      else if i = s.ans2.symCount.toNat + 2 then ⟨symStart (s.prior 7168) 0, symFreq (s.prior 7168) 0⟩
      else Memory.read SymCell.zero s.ans2.symbuf i := by
  obtain ⟨-, -, hwf, -⟩ := s.memoriesCanonical_iff.mp hcan
  have hsyms1 := Ans2.toNat_buffered_symCount (s.prior s.typeCell) 1 (a := s.ans2) (by omega)
  have hsyms2 := Ans2.toNat_buffered_symCount (s.prior s.countCell) n.toNat
    (a := s.ans2.buffered (s.prior s.typeCell) 1) (by omega)
  rw [hsyms1] at hsyms2
  rw [← hsyms1, ← hsyms2]
  exact Memory.read_write_three hwf (by omega) (by omega) _ _ _ i

theorem copySymbols_symCount (n : BitVec 32) (s : State) : (s.copySymbols n).symCount = s.ans2.symCount + 3 := by
  show s.ans2.symCount + 1 + 1 + 1 = _
  rw [BitVec.add_assoc, BitVec.add_assoc]
  rfl

/-- The Copy is a command `ENCODE_CMD` takes (R344). -/
theorem validCommand_recentCopy (n : BitVec 32) (hd : s.ctx.distanceLru[0] ≠ 0) :
    validCommand (s.recentCopy n) = true := by
  have hdist : decide ((s.recentCopy n).distance = 0) = false := decide_eq_false hd
  simp only [validCommand, hdist]
  rfl

theorem exec_encodeCmd_copy {n : BitVec 32} (h : s.TakesRecentCopy n) :
    exec (.encodeCmd (s.recentCopy n)) s =
      .next ((fullyDecodedStep (s.copying n (s.copySymbols n) (s.copyPriors n) .fullyDecoded)).answer
        .success .nothing) := by
  obtain ⟨hroom, -, htop, -, -, hd, -⟩ := id h
  show execEncodeCmd (s.recentCopy n) s = _
  obtain ⟨k, hk⟩ : ∃ k, State.codecFuel (s.lock.setCmd fun _ => s.recentCopy n) = k + 6 :=
    Nat.exists_eq_add_of_le' (le_add_right (by norm_num))
  have hlegal : Legal.encode.allows s = true := congrArg not hroom.encoding.2
  have hopen : ¬ (s.lock.ctl.encFinished = true ∨ s.lock.codec.top = .topEof) := by
    rintro (hfin | heof)
    · exact absurd (hroom.unfinished.symm.trans hfin) (by decide)
    · exact absurd (htop.symm.trans heof) (by decide)
  have hlatch : latchCommand (s.recentCopy n) s.lock = .ok () (s.lock.setCmd fun _ => s.recentCopy n) :=
    (if_pos htop).trans (if_pos (validCommand_recentCopy n hd))
  rw [execEncodeCmd, runOp_legal hroom.encoding.1 hlegal]
  show (if s.lock.ctl.encFinished = true ∨ s.lock.codec.top = .topEof then _
    else (latchCommand (s.recentCopy n) s.lock).bind _ : Reply Returns).outcome = _
  rw [if_neg hopen, hlatch]
  show ((runCodec (State.codecFuel (s.lock.setCmd fun _ => s.recentCopy n)) _).map _).outcome = _
  rw [hk, runCodec_copy h]
  rfl

end

/-- Settles O50: `tableNibble_codedStep` for the steps that read a table, the steps that code no nibble, and the five
steps of the Copy. -/
theorem tableStepsAndRecentCopy : Obligations.TableStepsAndRecentCopy := by
  refine ⟨fun s n v hcan h => ⟨(codecStep_tableNibble h).2, tableNibble_codedStep hcan h v⟩,
    fun s htop hsub p hp hkind => codecStep_begin htop hsub hkind hp, fun s htop => ⟨fun hsub hslot => ?_,
      fun hsub hslot => ?_⟩, ?_⟩
  · obtain ⟨slot, hslot⟩ := Option.ne_none_iff_exists'.mp hslot
    exact codecStep_countDecoded htop hsub hslot
  · obtain ⟨k, hk⟩ := codecStep_distance htop hsub
    exact hk.trans (withDistSlot_none hslot k)
  · intro s n hencoding hcan hdirect hopen htop hesc hn hd hmap hsyms a1 a2 hcells c
    have htakes : s.TakesRecentCopy n :=
      ⟨⟨hencoding, hdirect, hopen, hsyms⟩, hcan, htop, hesc, hn, hd, hmap, hcells _ (by simp [a1, State.typeCell]),
        hcells _ (by simp [a2, State.countCell]), hcells _ (by simp)⟩
    have hlt1 := s.typeCell_lt_countCell
    have hlt2 := s.countCell_lt
    refine ⟨_, exec_encodeCmd_copy htakes, rfl, ?_, ?_, ?_, ?_, ?_, read_copySymbols n hcan hsyms⟩
    · rw [← copySymbols_symCount n]
      rfl
    · exact (read_copyPriors n hcan _).trans (if_pos rfl)
    · exact (read_copyPriors n hcan _).trans ((if_neg hlt1.ne').trans (if_pos rfl))
    · exact (read_copyPriors n hcan _).trans
        ((if_neg (hlt1.trans hlt2).ne').trans ((if_neg hlt2.ne').trans (if_pos rfl)))
    · intro a ha
      simp only [List.mem_cons, List.not_mem_nil, or_false, not_or] at ha
      obtain ⟨htype, hcount, hmnemonic⟩ := ha
      exact (read_copyPriors n hcan a).trans ((if_neg htype).trans ((if_neg hcount).trans (if_neg hmnemonic)))

end Sys2Proof.Machine
end

section
/-! SUPPORT. A literal nibble (R310 to R313, R315): the cells it is mixed from, what its end leaves of the data and of
the byte history, and the weight and the two cells a mixed nibble updates. -/

namespace Sys2Proof.Machine

section
variable {s : State}

/-! ### The context of a literal -/

/-- The index of the literal in its context map (R310). -/
def State.litEntry (s : State) : Nat :=
  cmapIndex s.ctx.btypeLit 6 (literalContext s.ctx.predMode s.ctx.hist[0] s.ctx.hist[1])

/-- The slot of the literal, where its index is within the map (R310). -/
def State.litSlot (s : State) : Nat :=
  if s.ctx.litCmapLen = 0 then 0 else (Memory.read 0 s.ctx.litCmap s.litEntry).toNat

theorem litCmapLen_toNat_eq_zero_iff : s.ctx.litCmapLen.toNat = 0 ↔ s.ctx.litCmapLen = 0 := by
  rw [← BitVec.toNat_inj]
  rfl

theorem withLitSlot_within (h : s.ctx.litCmapLen = 0 ∨ s.litEntry < s.ctx.litCmapLen.toNat) (k : Nat → Reply Unit) :
    withLitSlot s k = k s.litSlot := by
  unfold withLitSlot cmapSlot State.litSlot
  simp only [litCmapLen_toNat_eq_zero_iff]
  split
  · rfl
  · next hlen => exact if_neg (Nat.not_le.mpr (h.resolve_left hlen))

theorem withLitSlot_beyond (hlen : s.ctx.litCmapLen ≠ 0) (h : s.ctx.litCmapLen.toNat ≤ s.litEntry)
    (k : Nat → Reply Unit) : withLitSlot s k = raise .contextMapIndexOutOfRange s :=
  (if_neg (litCmapLen_toNat_eq_zero_iff.not.mpr hlen)).trans (if_pos h)

theorem strideByte_eq (s : State) : s.strideByte = s.ctx.hist[s.strideM1.toNat]'s.strideM1.isLt := by
  rw [State.strideByte, Vector.getElem?_eq_getElem s.strideM1.isLt]
  rfl

theorem priorLitStride_eq (sb ni h : Nat) : priorLitStride sb ni h = 13056 + (sb * 2 + ni) * 16 + h :=
  (Nat.add_assoc ..).symm

theorem priorLitCm_eq (slot ni h : Nat) : priorLitCm slot ni h = 21248 + (slot * 2 + ni) * 16 + h :=
  (Nat.add_assoc ..).symm

/-- The stride cells end before the context-map cells begin (R70). -/
theorem priorLitStride_lt_priorLitCm (sb : Byte) {ni h : Nat} (_ : ni < 2) (_ : h < 16) (slot : Nat) :
    priorLitStride sb.toNat ni h < priorLitCm slot ni h := by
  unfold priorLitStride priorLitCm
  omega

/-! ### The end of a literal nibble -/

/-- The data after the nibble `v`: a decoder stores it (R311). -/
def State.literalData (idx : BitVec 33) (v : Nibble) (s : State) : List Byte :=
  if s.isDecode then
    s.codec.cmd.data.set (idx.toNat / 2)
      (if idx.toNat % 2 = 0 then BitVec.ofNat 8 (16 * v.toNat)
        else dataByte s.codec.cmd (idx.toNat / 2) ||| BitVec.ofNat 8 v.toNat)
  else s.codec.cmd.data

/-- The byte history after the nibble `v`: the low nibble completes the byte (R315). -/
def State.literalHist (idx : BitVec 33) (v : Nibble) (s : State) : Vector Byte 8 :=
  if idx.toNat % 2 = 1 then histPush s.ctx.hist (((s.literalData idx v)[idx.toNat / 2]?).getD 0) else s.ctx.hist

/-- The end of a literal nibble within the data moves the data, the history and the substate (R311, R315). -/
theorem literalDone_eq_withCodec {idx : BitVec 33} (hidx : idx.toNat < 2 * s.codec.cmd.len.toNat) (v : Nibble) :
    literalDone idx v s =
      s.withCodec (if idx.toNat + 1 = 2 * s.codec.cmd.len.toNat then .fullyDecoded else .literalNibbleIndex (idx + 1))
        { s.codec.cmd with data := s.literalData idx v } { s.ctx with hist := s.literalHist idx v } := by
  have hdata : (if s.isDecode then
      s.setCmd fun c => { c with
        data := c.data.set (idx.toNat / 2)
          (if idx.toNat % 2 = 0 then v ++ (0 : Nibble)
            else dataByte s.codec.cmd (idx.toNat / 2) ||| v.setWidth 8) } else s) =
        s.setCmd fun c => { c with data := s.literalData idx v } := by
    rw [nibbles_append, ← BitVec.ofNat_toNat, Nat.mul_comm]
    unfold State.literalData
    split <;> rfl
  have hlast : 2 * s.codec.cmd.len.toNat ≤ idx.toNat + 1 ↔ idx.toNat + 1 = 2 * s.codec.cmd.len.toNat := by omega
  unfold literalDone State.literalHist
  dsimp only
  rw [hdata]
  by_cases hlow : idx.toNat % 2 = 1
  · simp only [if_pos hlow, State.setCtx_codec, State.setCmd_codec, hlast]
    split <;> rfl
  · simp only [if_neg hlow, State.setCmd_codec, hlast]
    split <;> rfl

/-- The end of a literal nibble reads the codec, the history and the mode of the session only. -/
theorem literalDone_eq_of_same {u : State} {idx : BitVec 33} (hidx : idx.toNat < 2 * s.codec.cmd.len.toNat)
    (hctl : u.ctl = s.ctl) (hcodec : u.codec = s.codec) (hhist : u.ctx.hist = s.ctx.hist) (v : Nibble) :
    literalDone idx v u =
      u.withCodec (if idx.toNat + 1 = 2 * s.codec.cmd.len.toNat then .fullyDecoded else .literalNibbleIndex (idx + 1))
        { s.codec.cmd with data := s.literalData idx v } { u.ctx with hist := s.literalHist idx v } := by
  have hdata : u.literalData idx v = s.literalData idx v := by
    unfold State.literalData State.isDecode
    rw [hctl, hcodec]
  rw [literalDone_eq_withCodec (hcodec ▸ hidx), State.literalHist, hdata, hhist, hcodec]
  rfl

/-- A byte pushed stands in front, and the others move back by one (R315). -/
theorem histPush_front (hist : Vector Byte 8) (b : Byte) : (histPush hist b)[0] = b := by
  simp [histPush]

theorem histPush_succ (hist : Vector Byte 8) (b : Byte) (i : Fin 7) :
    (histPush hist b)[i.val + 1]'(by omega) = hist[i.val]'(by omega) := by
  have hi : i.val < 8 := by omega
  simp [histPush, Vector.getElem?_eq_getElem hi]

/-! ### The updates after a mixed nibble -/

theorem weightUpdate_lt {w : Nat} (hw : w < 65536) (fa fb : Nat) : weightUpdate w fa fb < 65536 := by
  unfold weightUpdate
  have hup : (32768 - w) / 2 ^ Config.weightShift ≤ 32768 - w := Nat.div_le_self _ _
  have hdown : w - w / 2 ^ Config.weightShift ≤ w := Nat.sub_le _ _
  repeat' split
  all_goals omega

/-- The priors after a mixed nibble: both cells are blended (R311). -/
def State.mixedPriors (a b : Nat) (v : Nibble) (s : State) : Memory Cdf16 :=
  Memory.write defaultCdf (Memory.write defaultCdf s.model.priors a (blend (s.prior a) v.toNat s.ctx.speedStride)) b
    (blend (s.prior b) v.toNat s.ctx.speedCm)

/-- The weights after a mixed nibble (R313). -/
def State.mixedWeights (ni h a b : Nat) (v : Nibble) (s : State) : Vector (BitVec 16) 32 :=
  (s.ctx.setWeight ni h (BitVec.ofNat 16 (weightUpdate (s.ctx.weight ni h).toNat (scaledPdf (s.prior a) v.toNat)
    (scaledPdf (s.prior b) v.toNat)))).weights

theorem mixedUpdate_eq (hwf : Memory.wf defaultCdf s.model.priors = true) (ni h : Nat) {a b : Nat} (hab : a < b)
    (v : Nibble) :
    mixedUpdate ni h a b v s =
      { s with
        model := { s.model with priors := s.mixedPriors a b v }
        ctx := { s.ctx with weights := s.mixedWeights ni h a b v } } := by
  have hb (x : Cdf16) : Memory.read defaultCdf (Memory.write defaultCdf s.model.priors a x) b = s.prior b :=
    (Memory.read_write hwf a b x).trans (if_neg hab.ne')
  unfold mixedUpdate State.mixedPriors State.mixedWeights Context.setWeight State.setCtx State.setPrior State.prior
  dsimp only
  rw [hb]
  rfl

/-- Both cells are blended at the speeds of the prediction mode, and no other cell (R311). -/
theorem read_mixedPriors (hwf : Memory.wf defaultCdf s.model.priors = true) (a b : Nat) (v : Nibble) (d : Nat) :
    Memory.read defaultCdf (s.mixedPriors a b v) d =
      if d = b then blend (s.prior b) v.toNat s.ctx.speedCm
      else if d = a then blend (s.prior a) v.toNat s.ctx.speedStride
      else s.prior d := by
  rw [State.mixedPriors, Memory.read_write (Memory.wf_write a _ hwf), Memory.read_write hwf]
  rfl

/-- One weight moves a sixteenth toward the cell under which `v` was more likely (R313). -/
theorem toNat_mixedWeights (ni h a b : Nat) (v : Nibble) (s : State) (i : Fin 32) :
    ((s.mixedWeights ni h a b v)[i]).toNat =
      if i.val = 16 * ni + h then
        weightUpdate (s.ctx.weight ni h).toNat (scaledPdf (s.prior a) v.toNat) (scaledPdf (s.prior b) v.toNat)
      else s.ctx.weights[i].toNat := by
  unfold State.mixedWeights Context.setWeight
  rw [Fin.getElem_fin, Vector.getElem_ofFn, apply_ite BitVec.toNat, BitVec.toNat_ofNat,
    Nat.mod_eq_of_lt (weightUpdate_lt (BitVec.isLt _) _ _)]

/-- A whole mixed nibble moves cells, weights, data, history and substate (R311, R313, R315). -/
theorem literalDone_mixedUpdate {u : State} {idx : BitVec 33} (hidx : idx.toNat < 2 * s.codec.cmd.len.toNat)
    (hsame : s.sameCommand u) (hwf : Memory.wf defaultCdf u.model.priors = true) (ni h : Nat) {a b : Nat} (hab : a < b)
    (v : Nibble) :
    literalDone idx v (mixedUpdate ni h a b v u) =
      ({ u with model := { u.model with priors := u.mixedPriors a b v } } : State).withCodec
        (if idx.toNat + 1 = 2 * s.codec.cmd.len.toNat then .fullyDecoded else .literalNibbleIndex (idx + 1))
        { s.codec.cmd with data := s.literalData idx v }
        { s.ctx with weights := u.mixedWeights ni h a b v, hist := s.literalHist idx v } := by
  obtain ⟨hcodec, hctx, hctl⟩ := hsame
  rw [mixedUpdate_eq hwf ni h hab]
  generalize u.mixedPriors a b v = priors
  generalize u.mixedWeights ni h a b v = weights
  have hdone := literalDone_eq_of_same (s := s) (u := { u with
    model := { u.model with priors := priors }, ctx := { u.ctx with weights := weights } }) hidx hctl hcodec
    (show u.ctx.hist = s.ctx.hist by rw [hctx]) v
  rw [hdone, ← hctx]
  rfl

/-! ### The step of a literal nibble -/

section
variable {idx : BitVec 33} (htop : s.codec.top = .inCommand) (hsub : s.codec.substate = .literalNibbleIndex idx)
include htop hsub

theorem codecStep_literalUniform (he : s.codec.cmd.highEntropy = true) :
    codecStep s = literalUniformStep idx s := by
  rw [codecStep_inCommand htop, substateStep, hsub]
  exact if_pos he

theorem codecStep_literalMixed (he : s.codec.cmd.highEntropy = false) : codecStep s = literalMixedStep idx s := by
  rw [codecStep_inCommand htop, substateStep, hsub]
  exact if_neg (by simp [he])

end

end

/-- Every symbol of `UNIFORM` has a sixteenth of the scale (R45, R218). -/
theorem uniform_interval (v : Nibble) :
    (symStart defaultCdf v.toNat).toNat = 2048 * v.toNat + 1 ∧ (symFreq defaultCdf v.toNat).toNat = 2047 := by
  revert v
  decide

/-- A step that codes against `x` and then does `k` is a coded step, which goes on as `k` does inside the same command,
with the cells as they were. -/
theorem codedStep_of_codeAgainst {s : State} {x : Cdf16} {want v : Nibble} {reply : Reply Unit}
    {k : Nibble → State → Reply Unit} {goes : State → Prop} (hreply : reply = (codeAgainst x want s).bind k)
    (hgoes : ∀ b, s.sameCommand b → b.model = s.model → reply = k v b → goes b) : s.codedStep x want v reply goes := by
  refine codedStep_of_bind hreply fun b _ hcode => ?_
  have hmoves := codeAgainst_coderMoves x want s
  rw [hcode] at hmoves
  obtain ⟨hctl, hcodec, hctx, hmodel, -⟩ := Moves.coder_frame hmoves
  exact hgoes b ⟨hcodec, hctx, hctl⟩ hmodel (hreply.trans (congrArg (Reply.bind · k) hcode))

/-- Settles O46: both kinds of nibble are coded steps; the mixed one goes on by `mixedUpdate_eq`, and both end by
`literalDone_eq_of_same`. -/
theorem literalNibbleStep : Obligations.LiteralNibbleStep := by
  intro s idx v hf hcan htop hsub hidx c j ni byte want data done pushed h ctx6 entry slot a b w mix fa fb
  have hni : ni < 2 := Nat.mod_lt _ (by decide)
  have hh : h < 16 := by
    show (if ni = 0 then 0 else byte.toNat / 16) < 16
    have := byte.isLt
    split <;> omega
  have hab : a < b := by
    have hlt := priorLitStride_lt_priorLitCm (s.ctx.hist[s.strideM1.toNat]'s.strideM1.isLt) hni hh slot
    rwa [priorLitStride_eq, priorLitCm_eq] at hlt
  have hpushed : pushed (s.literalHist idx v) := by
    show if ni = 1 then _ else _
    unfold State.literalHist
    split
    · exact ⟨histPush_front _ _, histPush_succ _ _⟩
    · rfl
  refine ⟨?beyond, ?mixed, ?uniform⟩
  case beyond =>
    intro he hlen hbeyond
    rw [codecStep_literalMixed htop hsub he]
    exact withLitSlot_beyond hlen hbeyond _
  case mixed =>
    intro he hwithin
    have hstep : codecStep s = (codeAgainst mix want (s.setMix mix)).bind fun v u =>
        .ok () (literalDone idx v (mixedUpdate ni h a b v u)) := by
      rw [codecStep_literalMixed htop hsub he, literalMixedStep, withLitSlot_within hwithin, strideByte_eq,
        priorLitStride_eq, priorLitCm_eq]
      rfl
    refine codedStep_of_codeAgainst hstep fun base ⟨hcodec, hctx, hctl⟩ hmodel hk => ?_
    have hsame : s.sameCommand base := ⟨hcodec, hctx, hctl⟩
    have hctx : base.ctx = s.ctx := hctx
    have hwf : Memory.wf defaultCdf base.model.priors = true := by
      obtain ⟨-, -, -, ⟨hwf, -⟩, -⟩ := s.memoriesCanonical_iff.mp hcan
      rw [hmodel]
      exact hwf
    have hprior (d : Nat) : base.prior d = s.prior d := by rw [State.prior, hmodel]; rfl
    refine ⟨base.mixedPriors a b v, base.mixedWeights ni h a b v, _, hpushed, hk.trans ?_, ?_, ?_, fun d hda hdb => ?_,
      fun i => ?_⟩
    · rw [literalDone_mixedUpdate (s := s) hidx hsame hwf ni h hab, hmodel]
      rfl
    · rw [read_mixedPriors hwf, if_neg hab.ne, if_pos rfl, hprior, hctx]
    · rw [read_mixedPriors hwf, if_pos rfl, hprior, hctx]
    · rw [read_mixedPriors hwf, if_neg hdb, if_neg hda, hprior]
    · refine (toNat_mixedWeights ni h a b v base i).trans ?_
      rw [hprior, hprior, hctx]
      rfl
  case uniform =>
    intro he
    obtain ⟨hstart, hfreq⟩ := uniform_interval v
    refine ⟨hstart, hfreq, codedStep_of_codeAgainst (codecStep_literalUniform htop hsub he)
      fun base ⟨hcodec, hctx, hctl⟩ hmodel hk => ⟨_, hpushed, hk.trans ?_⟩⟩
    rw [literalDone_eq_of_same hidx hctl hcodec (congrArg Context.hist hctx), hctx, ← hmodel]
    rfl

end Sys2Proof.Machine
end

section
/-! SUPPORT. The two nibbles of a block switch (R317): what their steps code, and the block type that takes effect. -/

namespace Sys2Proof.Machine

section
variable {s : State}

/-! ### The cells of a block switch -/

theorem priorBlockSwitch_high (kix : Nat) : priorBlockSwitch kix 0 0 = 41728 + kix * 2 * 16 := rfl

theorem priorBlockSwitch_low (kix hi : Nat) : priorBlockSwitch kix 1 hi = 41728 + (kix * 2 + 1) * 16 + hi := by
  rw [priorBlockSwitch, Nat.add_assoc]

/-! ### The steps -/

theorem codecStep_blockHigh (htop : s.codec.top = .inCommand) (hsub : s.codec.substate = .blockTypeHigh) :
    codecStep s =
      (codeNibble (41728 + blockKind s.codec.cmd * 2 * 16) 4 (BitVec.ofNat 4 (s.codec.cmd.blockType.toNat / 16)) s).bind
        fun hi s => .ok () ((s.setDecoded fun c => { c with blockType := hi ++ (0 : Nibble) }).goto .blockTypeLow) := by
  rw [codecStep_inCommand htop, substateStep, hsub, ← nibbleOf_high, ← priorBlockSwitch_high]
  rfl

theorem codecStep_blockLow (htop : s.codec.top = .inCommand) (hsub : s.codec.substate = .blockTypeLow) :
    codecStep s =
      (codeNibble (41728 + (blockKind s.codec.cmd * 2 + 1) * 16 + s.codec.cmd.blockType.toNat / 16) 4
        (BitVec.ofNat 4 (s.codec.cmd.blockType.toNat % 16)) s).bind fun lo u =>
          .ok () ((u.setDecoded fun c =>
            { c with blockType := nibbleOf s.codec.cmd.blockType 0 ++ lo }).switchBlock.goto .fullyDecoded) := by
  rw [codecStep_inCommand htop, substateStep, hsub, ← nibbleOf_low, ← toNat_nibbleOf_high, ← priorBlockSwitch_low]
  rfl

/-! ### The block type in effect -/

/-- The bookkeeping in which the block type of the command has taken effect (R317). -/
def Context.switched (c : Command) (x : Context) : Context :=
  { x with
    btypeLit := if c.kind.toNat - 4 = 0 then c.blockType else x.btypeLit
    btypeCmd := if c.kind.toNat - 4 = 1 then c.blockType else x.btypeCmd
    btypeDist := if c.kind.toNat - 4 = 2 then c.blockType else x.btypeDist }

/-- A block switch sets one block type, by the kind of the command (R317). -/
theorem switchBlock_goto (h : s.codec.cmd.kind ∈ ([4, 5, 6] : List Nibble)) (x : Substate) :
    s.switchBlock.goto x = s.withCodec x s.codec.cmd (s.ctx.switched s.codec.cmd) := by
  unfold State.switchBlock blockKind Context.switched
  simp only [List.mem_cons, List.not_mem_nil, or_false] at h
  rcases h with h | h | h <;> rw [h] <;> rfl

/-- What a block switch leaves of the command it decodes takes effect (R317). -/
theorem setDecoded_switchBlock_goto {f : Command → Command} (h : s.codec.cmd.kind ∈ ([4, 5, 6] : List Nibble))
    (hf : (f s.codec.cmd).kind = s.codec.cmd.kind) (x : Substate) {c : Command}
    (hc : (if s.isDecode then f s.codec.cmd else s.codec.cmd) = c) :
    (s.setDecoded f).switchBlock.goto x = s.withCodec x c (s.ctx.switched c) := by
  subst hc
  unfold State.setDecoded
  split
  · exact switchBlock_goto (s := s.setCmd f) (hf ▸ h) x
  · exact switchBlock_goto h x

end

/-- Settles O47: both steps are coded steps of their cell; after the low nibble `switchBlock_goto` gives the block
type in effect. -/
theorem blockSwitchSteps : Obligations.BlockSwitchSteps := by
  intro s v hcan htop hkind c kix hi done
  refine ⟨?high, ?low⟩
  case high =>
    intro hsub a
    refine codedStep_of_codeNibble hcan (codecStep_blockHigh htop hsub)
      fun base coded _ ⟨hcodec, hctx, hctl⟩ hblend hk => ⟨coded, hblend, hk.trans ?_⟩
    have hdec : coded.isDecode = s.isDecode := by rw [State.isDecode, hctl]; rfl
    rw [setDecoded_goto, nibbles_append, hdec, hcodec, hctx]
    cases s.isDecode <;> rfl
  case low =>
    intro hsub a b
    refine codedStep_of_codeNibble hcan (codecStep_blockLow htop hsub)
      fun base coded _ ⟨hcodec, hctx, hctl⟩ hblend hk => ⟨coded, hblend, hk.trans ?_⟩
    have hdec : coded.isDecode = s.isDecode := by rw [State.isDecode, hctl]; rfl
    have hcmd : (if coded.isDecode then
        { coded.codec.cmd with blockType := nibbleOf s.codec.cmd.blockType 0 ++ v } else coded.codec.cmd) =
          { c with blockType := b } := by
      rw [nibbles_append, toNat_nibbleOf_high, hdec, hcodec]
      show (if s.isDecode then _ else _) = { c with blockType := if s.isDecode then _ else _ }
      cases s.isDecode <;> rfl
    rw [setDecoded_switchBlock_goto (hcodec ▸ hkind) rfl .fullyDecoded hcmd, hctx]
    rfl

end Sys2Proof.Machine
end

section
/-! SUPPORT. How many codec steps a command has left (log 11): a step that goes on leaves fewer, so the loop of
`ENCODE_CMD` and `DECODE_CMD` ends before its bound and does not depend on it. -/

namespace Sys2Proof.Machine

/-! ### The steps left -/

/-- The most steps a tiered integer takes from a stage on (R263 to R268). -/
def IntStage.stepsLeft : IntStage → Nat
  | .small => 11
  | .first => 1
  | .greater => 1
  | .mantissaHeader => 10
  | .mantissaNibbles _ lr _ => lr.toNat + 1

/-- The most steps a context map has left from its entry `j` on: three for each entry, and after the literal map the
distance map with its count (R321, R322). -/
def MapId.stepsFrom (c : Command) (j : Nat) : MapId → Nat
  | .literal => 3 * (c.litMap.length - j) + 3 * (1024 + c.distMap.length) + 14
  | .distance => 3 * (c.distMap.length - j)

/-- The most steps a command has left once an integer of a user is complete (R280, R303, R316, R321). -/
def IntUser.stepsAfter (c : Command) : IntUser → Nat
  | .copyCount => 19
  | .literalLen => 2 ^ 33
  | .dictField f => 20 * (3 - f.val)
  | .mapCount .literal => 3 * (16384 + c.litMap.length) + 3 * (1024 + c.distMap.length) + 17
  | .mapCount .distance => 3 * (1024 + c.distMap.length) + 3

/-- The most steps a command has left from a substate on. -/
def Substate.stepsLeft (c : Command) : Substate → Nat
  | .begin => 2 ^ 33 + 100000 + 3 * (c.litMap.length + c.distMap.length)
  | .countSmall => IntUser.copyCount.stepsAfter c + IntStage.small.stepsLeft
  | .countLengthFirst => IntUser.copyCount.stepsAfter c + IntStage.first.stepsLeft
  | .countLengthGreater18Less25 => IntUser.copyCount.stepsAfter c + IntStage.greater.stepsLeft
  | .countMantissaHeader => IntUser.copyCount.stepsAfter c + IntStage.mantissaHeader.stepsLeft
  | .countMantissaNibbles ld lr dsf => IntUser.copyCount.stepsAfter c + (IntStage.mantissaNibbles ld lr dsf).stepsLeft
  | .countDecoded => 19
  | .distanceLengthMnemonic => 18
  | .distanceLengthFirst => 17
  | .distanceMantissaNibbles _ lr _ => lr.toNat + 1
  | .literalCountSmall => IntUser.literalLen.stepsAfter c + IntStage.small.stepsLeft
  | .literalCountFirst => IntUser.literalLen.stepsAfter c + IntStage.first.stepsLeft
  | .literalCountLengthGreater14Less25 => IntUser.literalLen.stepsAfter c + IntStage.greater.stepsLeft
  | .literalCountMantissaHeader => IntUser.literalLen.stepsAfter c + IntStage.mantissaHeader.stepsLeft
  | .literalCountMantissaNibbles ld lr dsf =>
    IntUser.literalLen.stepsAfter c + (IntStage.mantissaNibbles ld lr dsf).stepsLeft
  | .literalHighEntropy => 2 * c.len.toNat + 2
  | .literalNibbleIndex idx => 2 * c.len.toNat - idx.toNat + 1
  | .dictField f stage => (IntUser.dictField f).stepsAfter c + stage.stepsLeft
  | .blockTypeHigh => 2
  | .blockTypeLow => 1
  | .predMode => (IntUser.mapCount .literal).stepsAfter c + 14
  | .predSpeedStride => (IntUser.mapCount .literal).stepsAfter c + 13
  | .predSpeedCm => (IntUser.mapCount .literal).stepsAfter c + 12
  | .mapCount mi stage => (IntUser.mapCount mi).stepsAfter c + stage.stepsLeft
  | .mapEntryMnemonic mi j => mi.stepsFrom c j + 3
  | .mapEntryHigh mi j => mi.stepsFrom c j + 2
  | .mapEntryLow mi j => mi.stepsFrom c j + 1
  | .fullyDecoded => 0

/-- The most steps the command of the state has left. -/
def State.stepsLeft (s : State) : Nat :=
  match s.codec.top with
  | .topBegin => Substate.begin.stepsLeft s.codec.cmd + 1
  | .inCommand => s.codec.substate.stepsLeft s.codec.cmd
  | .topEof => 0

theorem IntUser.stepsLeft_at (u : IntUser) (stage : IntStage) (c : Command) :
    (u.at stage).stepsLeft c = u.stepsAfter c + stage.stepsLeft := by
  cases u <;> cases stage <;> rfl

theorem IntStage.stepsLeft_pos (stage : IntStage) : 0 < stage.stepsLeft := by
  cases stage <;> exact Nat.succ_pos _

theorem IntStage.stepsLeft_le (stage : IntStage) : stage.stepsLeft ≤ 16 := by
  cases stage with
  | mantissaNibbles ld lr dsf => exact lr.isLt
  | _ => decide

theorem IntUser.stepsAfter_le (u : IntUser) (c : Command) :
    u.stepsAfter c ≤ 2 ^ 33 + 60000 + 3 * (c.litMap.length + c.distMap.length) := by
  cases u with
  | mapCount mi => cases mi <;> simp only [IntUser.stepsAfter] <;> omega
  | _ => simp only [IntUser.stepsAfter]; omega

theorem MapId.stepsFrom_le (mi : MapId) (c : Command) (j : Nat) :
    mi.stepsFrom c j ≤ 60000 + 3 * (c.litMap.length + c.distMap.length) := by
  cases mi <;> simp only [MapId.stepsFrom] <;> omega

/-- No substate has more steps left than the first (log 11). -/
theorem Substate.stepsLeft_le (x : Substate) (c : Command) : x.stepsLeft c ≤ Substate.begin.stepsLeft c := by
  have hbegin : Substate.begin.stepsLeft c = 2 ^ 33 + 100000 + 3 * (c.litMap.length + c.distMap.length) := rfl
  cases hstage : x.intStage with
  | some p =>
    obtain ⟨u, stage⟩ := p
    rw [Substate.eq_at_of_intStage hstage, u.stepsLeft_at, hbegin]
    have := u.stepsAfter_le c
    have := stage.stepsLeft_le
    omega
  | none =>
    have hlen := c.len.isLt
    have hmap := (IntUser.mapCount .literal).stepsAfter_le c
    rw [hbegin]
    cases x with
    | begin => exact Nat.le_refl _
    | distanceMantissaNibbles ld lr dsf =>
      have := lr.isLt
      simp only [Substate.stepsLeft]
      omega
    | mapEntryMnemonic mi j | mapEntryHigh mi j | mapEntryLow mi j =>
      have := mi.stepsFrom_le c j
      simp only [Substate.stepsLeft]
      omega
    | countDecoded | distanceLengthMnemonic | distanceLengthFirst | literalHighEntropy | literalNibbleIndex
      | blockTypeHigh | blockTypeLow | predMode | predSpeedStride | predSpeedCm | fullyDecoded =>
      simp only [Substate.stepsLeft]
      omega
    | _ => cases hstage

/-- The bound of the loop is above the steps any state has left (log 11). -/
theorem State.stepsLeft_lt_codecFuel (s : State) : s.stepsLeft < s.codecFuel := by
  have hle := s.codec.substate.stepsLeft_le s.codec.cmd
  have hbegin : Substate.begin.stepsLeft s.codec.cmd + 1 < s.codecFuel := by
    simp only [Substate.stepsLeft, State.codecFuel]
    omega
  unfold State.stepsLeft
  split
  · exact hbegin
  · omega
  · omega

/-! ### Replies that go on -/

/-- Where the reply goes on it leaves a state of `P`. -/
def Reply.GoesTo {α : Type} (P : State → Prop) : Reply α → Prop
  | .ok _ t => P t
  | _ => True

/-- The reply goes on to a state of `P` or fails: it neither waits nor fails without the failure entry. -/
def Reply.Settles {α : Type} (P : State → Prop) : Reply α → Prop
  | .ok _ t => P t
  | .wait _ _ => False
  | .fail t => t.ctl.failed = true
  | _ => True

section
variable {α β : Type} {P Q : State → Prop} {s : State}

theorem Reply.Settles.goesTo {x : Reply α} (h : x.Settles P) : x.GoesTo P := by
  cases x with
  | ok a t => exact h
  | _ => trivial

theorem Reply.GoesTo.bind {x : Reply α} {k : α → State → Reply β} (h : x.GoesTo Q)
    (hk : ∀ a u, Q u → (k a u).GoesTo P) : (x.bind k).GoesTo P := by
  cases x with
  | ok a u => exact hk a u h
  | _ => trivial

theorem raise_settles (c : Cause) (s : State) : (raise c s : Reply α).Settles P := rfl

theorem Reply.Settles.ite {p : Prop} [Decidable p] {x y : Reply α} (hx : x.Settles P) (hy : y.Settles P) :
    (if p then x else y).Settles P := by
  split
  · exact hx
  · exact hy

theorem withUser_settles {u : IntUser} {stage : IntStage} (hsub : s.codec.substate = u.at stage)
    {k : IntUser → Reply Unit} (hk : (k u).Settles P) : (withUser s k).Settles P := by rwa [withUser_at hsub]

/-- A row that settles inside a running command goes on where its body does. -/
theorem applyRow_goesTo {t : NibbleTable} {v : Nibble} (h : (rowBody t v s).Settles P) : (applyRow t v s).GoesTo P := by
  unfold applyRow
  rw [nibbleMeaning_eq]
  rcases atTable_cases t (rowBody t v) s with ⟨-, hrow⟩ | ⟨-, hrow⟩ <;> rw [hrow]
  · cases hbody : rowBody t v s <;> rw [hbody] at h
    case ok a u =>
      show (if u.ctl.failed then .fail u else .ok () u : Reply Unit).GoesTo P
      split
      · trivial
      · exact h
    case wait => exact h.elim
    case fail u =>
      have hfailed : u.ctl.failed = true := h
      show (if u.ctl.failed then .fail u else .ok () u : Reply Unit).GoesTo P
      rw [hfailed]
      trivial
    case refused => trivial
    case fault => trivial
  · trivial

end

/-! ### What is left after a row -/

theorem stepsFrom_setMapEntry (mi : MapId) (j k : Nat) (e : Byte) (c : Command) :
    mi.stepsFrom (setMapEntry mi j e c) k = mi.stepsFrom c k := by
  cases mi <;> simp only [MapId.stepsFrom, setMapEntry, setCommandMap, commandMap, List.length_set]

/-- `t` is inside a command with fewer than `n` steps left. -/
def State.leavesBelow (n : Nat) (t : State) : Prop :=
  t.codec.top = .inCommand ∧ t.codec.substate.stepsLeft t.codec.cmd < n

/-- A header of `h` announces `h + 1` nibbles (R267, R288). -/
theorem header_stepsLeft {h : Nat} (hh : ¬ 7 < h) : (BitVec.ofNat 4 (h + 1)).toNat + 1 < 10 := by
  rw [BitVec.toNat_ofNat]
  omega

/-- `t` is inside a command with fewer steps left than `s`, which is inside one too. -/
def State.leavesFewer (s : State) : State → Prop := State.leavesBelow (s.codec.substate.stepsLeft s.codec.cmd)

theorem State.leavesFewer_congr {s u : State} (h : u.codec = s.codec) : u.leavesFewer = s.leavesFewer := by
  unfold State.leavesFewer
  rw [h]

section
variable {s : State} (htop : s.codec.top = .inCommand)
include htop

theorem withCodec_leavesBelow {x : Substate} {c : Command} (ctx : Context) {n : Nat} (h : x.stepsLeft c < n) :
    (s.withCodec x c ctx).leavesBelow n := ⟨htop, h⟩

theorem goto_leavesBelow {x : Substate} {n : Nat} (h : x.stepsLeft s.codec.cmd < n) : (s.goto x).leavesBelow n :=
  ⟨htop, h⟩

/-- A counted map has a step less than the steps after its count left: its entries, or what comes after it (R321). -/
theorem setDecoded_map_stepsLeft {mi : MapId} {v : Nat} (hv : v ≤ mi.capacity) :
    (s.setDecoded (setCommandMap mi (List.replicate v 0))).codec.top = .inCommand ∧
      mi.stepsFrom (s.setDecoded (setCommandMap mi (List.replicate v 0))).codec.cmd 0 + 3 ≤
        (IntUser.mapCount mi).stepsAfter s.codec.cmd ∧
      (mi = .literal → Substate.stepsLeft (s.setDecoded (setCommandMap mi (List.replicate v 0))).codec.cmd
        (.mapCount .distance .small) ≤ (IntUser.mapCount mi).stepsAfter s.codec.cmd) := by
  refine ⟨?top, ?counts⟩
  case top =>
    unfold State.setDecoded
    split <;> exact htop
  case counts =>
    unfold State.setDecoded
    cases mi with
    | literal =>
      have hv : v ≤ 16384 := hv
      split <;>
        simp only [State.setCmd_codec, setCommandMap, MapId.stepsFrom, IntUser.stepsAfter, Substate.stepsLeft,
          IntStage.stepsLeft, List.length_replicate] <;>
        omega
    | distance =>
      have hv : v ≤ 1024 := hv
      refine ⟨?_, nofun⟩
      split <;>
        simp only [State.setCmd_codec, setCommandMap, MapId.stepsFrom, IntUser.stepsAfter, List.length_replicate] <;>
        omega

/-- A complete integer leaves no more than the steps after it (R280, R303, R316, R321). -/
theorem complete_settles (u : IntUser) (v : BitVec 32) {n : Nat} (hn : u.stepsAfter s.codec.cmd < n) :
    (u.complete v s).Settles (State.leavesBelow n) := by
  cases u with
  | copyCount => exact ⟨htop, hn⟩
  | literalLen =>
    refine .ite (raise_settles _ s) ⟨htop, ?_⟩
    have := v.isLt
    show 2 * v.toNat + 2 < n
    simp only [IntUser.stepsAfter] at hn
    omega
  | dictField f =>
    refine ⟨htop, ?_⟩
    show Substate.stepsLeft _ (if f.val < 3 then .dictField (f + 1) .small else .fullyDecoded) < n
    simp only [IntUser.stepsAfter] at hn
    split
    · next hf =>
      have hsucc : (f + 1).val = f.val + 1 := by omega
      simp only [Substate.stepsLeft, IntUser.stepsAfter, IntStage.stepsLeft, hsucc]
      omega
    · simp only [Substate.stepsLeft]
      omega
  | mapCount mi =>
    unfold IntUser.complete
    dsimp only
    split
    · exact raise_settles _ s
    · next hcap =>
      obtain ⟨htop', hentry, hnext⟩ := setDecoded_map_stepsLeft htop (Nat.le_of_not_lt hcap)
      rw [show (if s.isDecode then s.setCmd (setCommandMap mi (List.replicate v.toNat 0)) else s) =
        s.setDecoded (setCommandMap mi (List.replicate v.toNat 0)) from rfl]
      split
      · exact ⟨htop', hentry.trans_lt hn⟩
      · split
        · next hmi => exact ⟨htop', (hnext hmi).trans_lt hn⟩
        · exact ⟨htop', Nat.zero_lt_of_lt hn⟩

section
variable {u : IntUser} (v : Nibble)

theorem smallRow_settles (hsub : s.codec.substate = u.at .small) :
    (rowBody .small v s).Settles s.leavesFewer := by
  rw [State.leavesFewer, hsub, u.stepsLeft_at]
  have goto (next : IntStage) (h : next.stepsLeft < 11) :
      (smallGoto next s).Settles (State.leavesBelow (u.stepsAfter s.codec.cmd + IntStage.small.stepsLeft)) :=
    withUser_settles hsub (goto_leavesBelow htop (by rw [u.stepsLeft_at]; exact Nat.add_lt_add_left h _))
  unfold rowBody
  dsimp only
  repeat' split
  · exact withUser_settles hsub (complete_settles htop u _ (Nat.lt_add_of_pos_right (by decide)))
  · exact goto .first (by decide)
  · exact goto .greater (by decide)
  · refine withUser_settles hsub (.ite ⟨htop, ?_⟩ (raise_settles _ s))
    exact Nat.add_pos_right _ (by decide)
  · exact goto .mantissaHeader (by decide)
  · exact raise_settles _ s

/-- A First or Greater nibble completes the integer (R265, R266). -/
theorem laterRow_settles {t : NibbleTable}
    (ht : t ∈ ([.firstCopy, .firstLit, .greaterCopy, .greaterLit] : List NibbleTable)) {stage : IntStage}
    (hsub : s.codec.substate = u.at stage) :
    (rowBody t v s).Settles s.leavesFewer := by
  rw [State.leavesFewer, hsub, u.stepsLeft_at]
  have done (x : BitVec 32) :
      (u.complete x s).Settles (State.leavesBelow (u.stepsAfter s.codec.cmd + stage.stepsLeft)) :=
    complete_settles htop u x (Nat.lt_add_of_pos_right stage.stepsLeft_pos)
  simp only [List.mem_cons, List.not_mem_nil, or_false] at ht
  rcases ht with rfl | rfl | rfl | rfl <;>
    exact withUser_settles hsub (.ite (raise_settles _ s) (done _))

theorem headerRow_settles (hsub : s.codec.substate = u.at .mantissaHeader) :
    (rowBody .header v s).Settles s.leavesFewer := by
  have hne : s.codec.substate ≠ .distanceLengthFirst := by rw [hsub]; cases u <;> nofun
  show (headerNibble v.toNat s).Settles _
  rw [headerNibble, if_neg hne, State.leavesFewer, hsub, u.stepsLeft_at]
  split
  · exact raise_settles _ s
  · next hv =>
    refine withUser_settles hsub (goto_leavesBelow htop ?_)
    rw [u.stepsLeft_at]
    exact Nat.add_lt_add_left (header_stepsLeft hv) _

theorem distanceHeaderRow_settles (hsub : s.codec.substate = .distanceLengthFirst) :
    (rowBody .header v s).Settles s.leavesFewer := by
  show (headerNibble v.toNat s).Settles _
  rw [headerNibble, if_pos hsub, State.leavesFewer, hsub]
  split
  · exact raise_settles _ s
  · next hv => exact goto_leavesBelow htop ((header_stepsLeft hv).trans (by decide : 10 < 17))

theorem mantissaNibble_settles {ld lr : BitVec 4} {dsf : BitVec 32}
    (hsub : s.codec.substate = u.at (.mantissaNibbles ld lr dsf)) :
    (mantissaNibble u ld lr dsf v s).Settles s.leavesFewer := by
  rw [State.leavesFewer, hsub, u.stepsLeft_at]
  unfold mantissaNibble
  dsimp only
  split
  · exact complete_settles htop u _ (Nat.lt_add_of_pos_right (IntStage.stepsLeft_pos _))
  · refine goto_leavesBelow htop ?_
    rw [u.stepsLeft_at]
    refine Nat.add_lt_add_left ?_ _
    simp only [IntStage.stepsLeft]
    bv_omega

theorem distanceNibble_settles {ld lr : BitVec 4} {dsf : BitVec 32}
    (hsub : s.codec.substate = .distanceMantissaNibbles ld lr dsf) :
    (distanceNibble ld lr dsf v s).Settles s.leavesFewer := by
  rw [State.leavesFewer, hsub]
  unfold distanceNibble
  dsimp only
  split
  · exact .ite (raise_settles _ s) ⟨htop, Nat.succ_pos _⟩
  · refine goto_leavesBelow htop ?_
    simp only [Substate.stepsLeft]
    bv_omega

theorem mnemonicRow_settles (hsub : s.codec.substate = .distanceLengthMnemonic) :
    (rowBody .distMnemonic v s).Settles s.leavesFewer := by
  rw [State.leavesFewer, hsub]
  unfold rowBody
  dsimp only
  split
  · unfold mnemonicNibble
    exact .ite ⟨htop, (by decide : 0 < 18)⟩ (raise_settles _ s)
  · exact goto_leavesBelow htop (x := .distanceLengthFirst) (by decide : 17 < 18)

/-- An entry done leaves fewer steps: a later entry, the next map or none (R323, R324). -/
theorem entryDone_leavesBelow (mi : MapId) (j : Nat) (e : Byte) :
    (entryDone mi j e s).leavesBelow (mi.stepsFrom s.codec.cmd j + 1) := by
  rcases Nat.lt_or_ge (j + 1) (commandMap s.codec.cmd mi).length with hmore | hlast
  · rw [entryDone_of_lt hmore]
    refine withCodec_leavesBelow htop _ ?_
    simp only [Substate.stepsLeft, stepsFrom_setMapEntry]
    cases mi <;> simp only [commandMap] at hmore <;> simp only [MapId.stepsFrom] <;> omega
  · rw [entryDone_of_le hlast]
    cases mi with
    | literal =>
      refine withCodec_leavesBelow htop _ ?_
      simp only [Substate.stepsLeft, IntUser.stepsAfter, IntStage.stepsLeft, MapId.stepsFrom, setMapEntry,
        setCommandMap]
      omega
    | distance => exact withCodec_leavesBelow htop _ (Nat.succ_pos _)

theorem mapMnemonicRow_settles {mi : MapId} {j : Nat} (hsub : s.codec.substate = .mapEntryMnemonic mi j) :
    (rowBody .cmapEntry v s).Settles s.leavesFewer := by
  rw [State.leavesFewer, hsub]
  unfold rowBody
  dsimp only
  split
  · rw [cmapRecent, withEntry_at hsub]
    obtain ⟨hin, hlt⟩ := entryDone_leavesBelow htop mi j s.ctx.cmapLru[v.toNat]
    exact ⟨hin, hlt.trans (Nat.add_lt_add_left (by decide) _)⟩
  · split
    · rw [cmapEscape, withEntry_at hsub]
      exact goto_leavesBelow htop (x := .mapEntryHigh mi j) (Nat.lt_succ_self _)
    · exact raise_settles _ s

theorem highEntropyRow_settles (hsub : s.codec.substate = .literalHighEntropy) :
    (rowBody .highEntropy v s).Settles s.leavesFewer := by
  have flag (he : Bool) : (highEntropyFlag he s).Settles s.leavesFewer := by
    rw [State.leavesFewer, hsub]
    refine ⟨htop, ?_⟩
    show Substate.stepsLeft _ (if s.codec.cmd.len = 0 then .fullyDecoded else .literalNibbleIndex 0) < _
    split
    · exact Nat.succ_pos _
    · exact Nat.lt_succ_self _
  unfold rowBody
  dsimp only
  repeat' split
  · exact flag false
  · exact flag true
  · exact raise_settles _ s

theorem predModeRow_settles (hsub : s.codec.substate = .predMode) : (rowBody .predMode v s).Settles s.leavesFewer := by
  unfold rowBody
  dsimp only
  split
  · rw [State.leavesFewer, hsub]
    exact ⟨htop, Nat.lt_succ_self _⟩
  · exact raise_settles _ s

theorem speedRow_settles (hsub : s.codec.substate = .predSpeedStride ∨ s.codec.substate = .predSpeedCm) :
    (rowBody .speed v s).Settles s.leavesFewer := by
  unfold rowBody
  dsimp only
  split
  · rw [State.leavesFewer, speedField]
    rcases hsub with hsub | hsub <;> rw [hsub]
    · exact ⟨htop, Nat.lt_succ_self _⟩
    · exact ⟨htop, Nat.lt_succ_self _⟩
  · exact raise_settles _ s

end

end

theorem typeRow_settles (v : Nibble) (s : State) :
    (rowBody .cmdType v s).Settles (State.leavesBelow (Substate.begin.stepsLeft s.codec.cmd + 1)) := by
  unfold rowBody
  dsimp only
  split
  · refine ⟨rfl, ?_⟩
    show Substate.stepsLeft (if s.isDecode then Command.blank v else { s.codec.cmd with kind := v }) .begin < _
    split
    · simp only [Substate.stepsLeft, Command.blank, List.length_nil]
      omega
    · exact Nat.lt_succ_self _
  · exact raise_settles _ s

/-! ### What is left after a step -/

section
variable {s : State} {P : State → Prop}

theorem codeAgainst_goesTo (x : Cdf16) (want : Nibble) (s : State) :
    (codeAgainst x want s).GoesTo fun u => u.codec = s.codec := by
  cases h : codeAgainst x want s with
  | ok v u => exact (codeAgainst_frame h).1
  | _ => trivial

theorem codeNibble_goesTo (a : Nat) (speed : BitVec 3) (want : Nibble) (s : State) :
    (codeNibble a speed want s).GoesTo fun u => u.codec = s.codec := by
  cases h : codeNibble a speed want s with
  | ok v u => exact (codeNibble_frame h).1
  | _ => trivial

theorem tableStep_goesTo {t : NibbleTable} {a : Nat} {speed : BitVec 3} {want : Nibble}
    (hrow : ∀ v u, u.codec = s.codec → (rowBody t v u).Settles P) : (tableStep t a speed want s).GoesTo P :=
  (codeNibble_goesTo a speed want s).bind fun v u hu => applyRow_goesTo (hrow v u hu)

theorem cmapSlot_goesTo {map : Memory Byte} {len idx : Nat} {k : Nat → Reply Unit} (hk : ∀ slot, (k slot).GoesTo P) :
    (cmapSlot map len idx s k).GoesTo P := by
  unfold cmapSlot
  repeat' split
  · exact hk 0
  · trivial
  · exact hk _

theorem withDistSlot_goesTo {k : Nat → Reply Unit} (hk : ∀ slot, (k slot).GoesTo P) : (withDistSlot s k).GoesTo P :=
  cmapSlot_goesTo hk

theorem typeStep_goesTo (s : State) :
    (typeStep s).GoesTo (State.leavesBelow (Substate.begin.stepsLeft s.codec.cmd + 1)) :=
  tableStep_goesTo fun v u hu => hu ▸ typeRow_settles v u

section
variable (htop : s.codec.top = .inCommand)
include htop

/-- A step that reads a table leaves fewer steps where the table's rows do. -/
theorem tableStep_leavesFewer {t : NibbleTable} {a : Nat} {speed : BitVec 3} {want : Nibble}
    (hrow : ∀ v u, u.codec = s.codec → u.codec.top = .inCommand → (rowBody t v u).Settles u.leavesFewer) :
    (tableStep t a speed want s).GoesTo s.leavesFewer :=
  tableStep_goesTo fun v u hu => State.leavesFewer_congr hu ▸ hrow v u hu (hu ▸ htop)

theorem intStep_leavesFewer {u : IntUser} {stage : IntStage} (hsub : s.codec.substate = u.at stage) :
    (intStep u stage s).GoesTo s.leavesFewer := by
  cases stage with
  | small => exact tableStep_leavesFewer htop fun v w hw hin => smallRow_settles hin v (hw ▸ hsub)
  | first =>
    exact tableStep_leavesFewer htop fun v w hw hin => laterRow_settles hin v (by split <;> decide) (hw ▸ hsub)
  | greater =>
    exact tableStep_leavesFewer htop fun v w hw hin => laterRow_settles hin v (by split <;> decide) (hw ▸ hsub)
  | mantissaHeader => exact tableStep_leavesFewer htop fun v w hw hin => headerRow_settles hin v (hw ▸ hsub)
  | mantissaNibbles ld lr dsf =>
    exact (codeNibble_goesTo _ _ _ s).bind fun v w hw =>
      State.leavesFewer_congr hw ▸ (mantissaNibble_settles (hw ▸ htop) v (hw ▸ hsub)).goesTo

theorem beginStep_leavesFewer (hsub : s.codec.substate = .begin) : (beginStep s).GoesTo s.leavesFewer := by
  have hgoto {x : Substate} (h : x.stepsLeft s.codec.cmd < Substate.begin.stepsLeft s.codec.cmd) :
      s.leavesFewer (s.goto x) := by
    rw [State.leavesFewer, hsub]
    exact goto_leavesBelow htop h
  unfold beginStep
  split
  case h_9 => trivial
  all_goals exact hgoto (by simp only [Substate.stepsLeft, IntUser.stepsAfter, IntStage.stepsLeft]; omega)

omit htop in
theorem mixedUpdate_codec (ni h a b : Nat) (v : Nibble) (s : State) : (mixedUpdate ni h a b v s).codec = s.codec := by
  simp [mixedUpdate]

/-- A literal nibble leaves those after it (R311, R312). -/
theorem literalDone_leavesFewer {idx : BitVec 33} (hsub : s.codec.substate = .literalNibbleIndex idx) (v : Nibble) :
    s.leavesFewer (literalDone idx v s) := by
  obtain ⟨data, hist, h⟩ := literalDone_eq idx v s
  rw [State.leavesFewer, hsub, h]
  refine withCodec_leavesBelow htop _ ?_
  split
  · exact Nat.succ_pos _
  · next hmore =>
    have hlen := s.codec.cmd.len.isLt
    have hsucc : (idx + 1).toNat = idx.toNat + 1 := by bv_omega
    simp only [Substate.stepsLeft, hsucc]
    omega

theorem literalStep_leavesFewer {idx : BitVec 33} (hsub : s.codec.substate = .literalNibbleIndex idx) :
    (literalStep idx s).GoesTo s.leavesFewer := by
  have done {u : State} (hu : u.codec = s.codec) (v : Nibble) : s.leavesFewer (literalDone idx v u) :=
    State.leavesFewer_congr hu ▸ literalDone_leavesFewer (hu ▸ htop) (hu ▸ hsub) v
  unfold literalStep
  split
  · exact (codeAgainst_goesTo _ _ s).bind fun v u hu => done hu v
  · unfold literalMixedStep withLitSlot
    refine cmapSlot_goesTo fun slot => (codeAgainst_goesTo _ _ _).bind fun v u hu => ?_
    exact done (((mixedUpdate_codec _ _ _ _ v u).trans hu).trans (State.setMix_codec _ s)) v

theorem mapLowStep_leavesFewer {mi : MapId} {j : Nat} (hsub : s.codec.substate = .mapEntryLow mi j) :
    (mapLowStep mi j s).GoesTo s.leavesFewer := by
  refine (codeNibble_goesTo _ _ _ s).bind fun v u hu => ?_
  rw [State.leavesFewer, hsub, ← hu]
  exact entryDone_leavesBelow (hu ▸ htop) mi j _

/-- A step that changes the command for a decoder and goes on leaves the steps of its next substate. -/
theorem setDecoded_goto_leavesBelow {f : Command → Command} {x : Substate} {n : Nat}
    (h : x.stepsLeft s.codec.cmd < n) (hf : x.stepsLeft (f s.codec.cmd) = x.stepsLeft s.codec.cmd) :
    ((s.setDecoded f).goto x).leavesBelow n := by
  rw [setDecoded_goto]
  refine withCodec_leavesBelow htop _ ?_
  split
  · exact hf ▸ h
  · exact h

theorem mapHighStep_leavesFewer {mi : MapId} {j : Nat} (hsub : s.codec.substate = .mapEntryHigh mi j) :
    (mapHighStep mi j s).GoesTo s.leavesFewer := by
  refine (codeNibble_goesTo _ _ _ s).bind fun v u hu => ?_
  rw [State.leavesFewer, hsub, ← hu]
  exact setDecoded_goto_leavesBelow (hu ▸ htop) (Nat.lt_succ_self _)
    (congrArg (· + 1) (stepsFrom_setMapEntry mi j j _ _))

theorem blockHighStep_leavesFewer (hsub : s.codec.substate = .blockTypeHigh) :
    (blockHighStep s).GoesTo s.leavesFewer := by
  refine (codeNibble_goesTo _ _ _ s).bind fun v u hu => ?_
  rw [State.leavesFewer, hsub]
  exact setDecoded_goto_leavesBelow (hu ▸ htop) (x := .blockTypeLow) (by decide : 1 < 2) rfl

theorem blockLowStep_leavesFewer (hsub : s.codec.substate = .blockTypeLow) : (blockLowStep s).GoesTo s.leavesFewer := by
  refine (codeNibble_goesTo _ _ _ s).bind fun v u hu => ?_
  rw [State.leavesFewer, hsub]
  obtain ⟨f, hswitch, -⟩ := switchBlock_eq
    (u.setDecoded fun c => { c with blockType := nibbleOf s.codec.cmd.blockType 0 ++ v })
  refine ⟨?_, (by decide : 0 < 1)⟩
  rw [hswitch, State.setDecoded]
  split <;> exact (congrArg Codec.top hu).trans htop

/-- A step inside a command that is not fully coded, where it goes on, leaves fewer steps (R300). -/
theorem substateStep_leavesFewer (hopen : s.codec.substate ≠ .fullyDecoded) :
    (substateStep s).GoesTo s.leavesFewer := by
  unfold substateStep
  cases hsub : s.codec.substate with
  | begin => exact beginStep_leavesFewer htop hsub
  | countDecoded =>
    refine withDistSlot_goesTo fun _ => ?_
    rw [State.leavesFewer, hsub]
    exact goto_leavesBelow htop (x := .distanceLengthMnemonic) (by decide : 18 < 19)
  | distanceLengthMnemonic =>
    exact withDistSlot_goesTo fun _ =>
      tableStep_leavesFewer htop fun v u hu hin => mnemonicRow_settles hin v (hu ▸ hsub)
  | distanceLengthFirst =>
    exact withDistSlot_goesTo fun _ =>
      tableStep_leavesFewer htop fun v u hu hin => distanceHeaderRow_settles hin v (hu ▸ hsub)
  | distanceMantissaNibbles =>
    exact withDistSlot_goesTo fun _ => (codeNibble_goesTo _ _ _ s).bind fun v u hu =>
      State.leavesFewer_congr hu ▸ (distanceNibble_settles (hu ▸ htop) v (hu ▸ hsub)).goesTo
  | literalHighEntropy =>
    exact tableStep_leavesFewer htop fun v u hu hin => highEntropyRow_settles hin v (hu ▸ hsub)
  | literalNibbleIndex => exact literalStep_leavesFewer htop hsub
  | blockTypeHigh => exact blockHighStep_leavesFewer htop hsub
  | blockTypeLow => exact blockLowStep_leavesFewer htop hsub
  | predMode => exact tableStep_leavesFewer htop fun v u hu hin => predModeRow_settles hin v (hu ▸ hsub)
  | predSpeedStride =>
    exact tableStep_leavesFewer htop fun v u hu hin => speedRow_settles hin v (.inl (hu ▸ hsub))
  | predSpeedCm => exact tableStep_leavesFewer htop fun v u hu hin => speedRow_settles hin v (.inr (hu ▸ hsub))
  | mapEntryMnemonic =>
    exact tableStep_leavesFewer htop fun v u hu hin => mapMnemonicRow_settles hin v (hu ▸ hsub)
  | mapEntryHigh => exact mapHighStep_leavesFewer htop hsub
  | mapEntryLow => exact mapLowStep_leavesFewer htop hsub
  | fullyDecoded => exact absurd hsub hopen
  | _ => exact intStep_leavesFewer htop hsub

end

/-- A codec step that goes on is inside a command and has fewer steps left than before it (R300). -/
theorem codecStep_leavesBelow (hopen : ¬ (s.codec.top = .inCommand ∧ s.codec.substate = .fullyDecoded)) :
    (codecStep s).GoesTo (State.leavesBelow s.stepsLeft) := by
  unfold codecStep State.stepsLeft
  cases htop : s.codec.top with
  | topBegin => exact typeStep_goesTo s
  | inCommand => exact substateStep_leavesFewer htop fun hsub => hopen ⟨htop, hsub⟩
  | topEof => trivial

end

end Sys2Proof.Machine
end

section
/-! SUPPORT. `ENCODE_CMD` and `DECODE_CMD` as the run of their codec steps (R344, R345): what the operation starts from,
and how its run follows one step. -/

namespace Sys2Proof.Machine

/-! ### The loop -/

section
variable {s t : State}

theorem State.leavesBelow.stepsLeft_lt {n : Nat} (h : t.leavesBelow n) : t.stepsLeft < n := by
  obtain ⟨htop, hlt⟩ := h
  unfold State.stepsLeft
  rw [htop]
  exact hlt

theorem runCodec_fullyCoded (htop : s.codec.top = .inCommand) (hsub : s.codec.substate = .fullyDecoded) (n : Nat) :
    runCodec (n + 1) s = .ok () (fullyDecodedStep s) := if_pos ⟨htop, hsub⟩

theorem runCodec_open (hopen : ¬ (s.codec.top = .inCommand ∧ s.codec.substate = .fullyDecoded)) (n : Nat) :
    runCodec (n + 1) s = (codecStep s).bind fun _ u => runCodec n u := if_neg hopen

/-- A codec step that goes on is inside a command, has fewer steps left, and leaves the control registers (R300). -/
theorem codecStep_ok (hopen : ¬ (s.codec.top = .inCommand ∧ s.codec.substate = .fullyDecoded))
    (h : codecStep s = .ok () t) : t.codec.top = .inCommand ∧ t.stepsLeft < s.stepsLeft ∧ t.ctl = s.ctl := by
  have hleaves := codecStep_leavesBelow hopen
  have hmoves := codecStep_ends (s := s) commands_parts_decodeCmd
  rw [h] at hleaves hmoves
  have hmoves : Moves _ s t := hmoves
  exact ⟨hleaves.1, State.leavesBelow.stepsLeft_lt hleaves, by rw [hmoves.ctl_eq, hmoves.encFinished_eq rfl]⟩

/-- A bound above the steps left does not matter (log 11). -/
theorem runCodec_eq {n m : Nat} (hn : s.stepsLeft < n) (hm : s.stepsLeft < m) : runCodec n s = runCodec m s := by
  induction n generalizing m s with
  | zero => cases hn
  | succ n ih =>
    obtain ⟨m, rfl⟩ := Nat.exists_eq_succ_of_ne_zero (Nat.ne_zero_of_lt hm)
    by_cases hlast : s.codec.top = .inCommand ∧ s.codec.substate = .fullyDecoded
    · rw [runCodec_fullyCoded hlast.1 hlast.2, runCodec_fullyCoded hlast.1 hlast.2]
    · rw [runCodec_open hlast, runCodec_open hlast]
      cases hcode : codecStep s with
      | ok a u =>
        obtain ⟨-, hleft, -⟩ := codecStep_ok hlast hcode
        exact ih (by omega) (by omega)
      | _ => rfl

/-! ### The run of a command -/

/-- The body of the command operation of the session from where its command is taken: the codec steps, and what it
returns (R344, R345). -/
def State.runCommand (s : State) : Reply Returns :=
  (runCodec s.codecFuel s).bind fun _ t => .ok (if s.isDecode then .command t.codec.cmd else .nothing) t

theorem codecFuel_eq_succ (s : State) : ∃ n, s.codecFuel = n + 1 ∧ s.stepsLeft ≤ n :=
  ⟨s.codecFuel - 1, (Nat.succ_pred_eq_of_pos (Nat.zero_lt_of_lt s.stepsLeft_lt_codecFuel)).symm,
    Nat.le_pred_of_lt s.stepsLeft_lt_codecFuel⟩

theorem runCommand_fullyCoded (htop : s.codec.top = .inCommand) (hsub : s.codec.substate = .fullyDecoded) :
    s.runCommand =
      .ok (if s.isDecode then .command (fullyDecodedStep s).codec.cmd else .nothing) (fullyDecodedStep s) := by
  obtain ⟨n, hfuel, -⟩ := codecFuel_eq_succ s
  rw [State.runCommand, hfuel, runCodec_fullyCoded htop hsub]
  rfl

section
variable (hopen : ¬ (s.codec.top = .inCommand ∧ s.codec.substate = .fullyDecoded))
include hopen

theorem runCommand_ok (h : codecStep s = .ok () t) : s.runCommand = t.runCommand := by
  obtain ⟨n, hfuel, hn⟩ := codecFuel_eq_succ s
  obtain ⟨-, hleft, hctl⟩ := codecStep_ok hopen h
  have hdec : t.isDecode = s.isDecode := by rw [State.isDecode, hctl]; rfl
  have hrun : runCodec n t = runCodec t.codecFuel t := runCodec_eq (by omega) t.stepsLeft_lt_codecFuel
  rw [State.runCommand, State.runCommand, hfuel, runCodec_open hopen, h, ← hrun, hdec]
  rfl

theorem runCommand_wait {w : Wait} (h : codecStep s = .wait w t) : s.runCommand = .wait w t := by
  obtain ⟨n, hfuel, -⟩ := codecFuel_eq_succ s
  rw [State.runCommand, hfuel, runCodec_open hopen, h]
  rfl

theorem runCommand_fail (h : codecStep s = .fail t) : s.runCommand = .fail t := by
  obtain ⟨n, hfuel, -⟩ := codecFuel_eq_succ s
  rw [State.runCommand, hfuel, runCodec_open hopen, h]
  rfl

end

/-- The step `FullyDecoded` ends the command, and after EOF the file (R302). -/
theorem fullyDecodedStep_eq (s : State) :
    fullyDecodedStep s = { s with
      ctx := { s.ctx with eofSeen := s.ctx.eofSeen || decide (s.codec.cmd.kind = 15) }
      codec := { s.codec with
        top := if s.codec.cmd.kind = 15 then .topEof else .topBegin
        substate := .begin } } := by
  unfold fullyDecodedStep
  by_cases hkind : s.codec.cmd.kind = 15
  · rw [if_pos hkind, if_pos hkind, decide_eq_true hkind, Bool.or_true]
  · rw [if_neg hkind, if_neg hkind, decide_eq_false hkind, Bool.or_false]

/-! ### The operations -/

/-- `i` is the command operation of the session, on `c` where it takes a command, and nothing keeps it from running its
steps (R344, R345, R348). -/
def State.takes (i : Instr) (c : Command) (s : State) : Prop :=
  (i = .encodeCmd c ∧ s.encoding ∧ s.ctl.encFinished = false ∧
      (s.codec.top = .topBegin → validCommand c = true)) ∨
    (i = .decodeCmd ∧ s.decoding)

/-- Where the steps of the command operation start: at a boundary an encoder has taken its command (R344, log 16). -/
def State.entered (c : Command) (s : State) : State :=
  if s.isDecode = false ∧ s.codec.top = .topBegin then { s.lock with codec := { s.codec with cmd := c } } else s.lock

/-- The command operation locks, takes its command, and runs its steps. -/
theorem exec_command {i : Instr} {c : Command} (heof : s.codec.top ≠ .topEof) (h : s.takes i c) :
    exec i s = (s.entered c).runCommand.outcome := by
  rcases h with ⟨rfl, ⟨hf, he⟩, hopen, hvalid⟩ | ⟨rfl, hf, hd⟩
  · have hlatch : latchCommand c s.lock = .ok () (s.entered c) := by
      unfold latchCommand State.entered
      by_cases hbegin : s.codec.top = .topBegin
      · rw [if_pos (show s.lock.codec.top = .topBegin from hbegin), if_pos (hvalid hbegin), if_pos ⟨he, hbegin⟩]
        rfl
      · rw [if_neg (show ¬ s.lock.codec.top = .topBegin from hbegin), if_neg fun hand => hbegin hand.2]
    have hencode : (s.entered c).isDecode = false := by
      unfold State.entered
      split <;> exact he
    have hbody : ¬ (s.lock.ctl.encFinished = true ∨ s.lock.codec.top = .topEof) := by
      rintro (hfin | htop)
      · exact absurd (hopen.symm.trans hfin) (by decide)
      · exact heof htop
    show execEncodeCmd c s = _
    rw [execEncodeCmd, runOp_legal (legal := .encode) hf (congrArg not he)]
    show (if s.lock.ctl.encFinished = true ∨ s.lock.codec.top = .topEof then _
      else (latchCommand c s.lock).bind _ : Reply Returns).outcome = _
    rw [if_neg hbody, hlatch, State.runCommand, hencode]
    rfl
  · have hentered : s.entered c = s.lock := if_neg fun hand => absurd (hd.symm.trans hand.1) (by decide)
    show execDecodeCmd s = _
    rw [execDecodeCmd, runOp_legal (legal := .decode) hf hd, hentered, State.runCommand]
    show (if s.lock.codec.top = .topEof then _ else _ : Reply Returns).outcome = _
    rw [if_neg (show ¬ s.lock.codec.top = .topEof from heof), show s.lock.isDecode = true from hd]
    rfl

theorem State.entered_codec (c : Command) (s : State) :
    (s.entered c).codec.top = s.codec.top ∧ (s.entered c).codec.substate = s.codec.substate ∧
      (s.entered c).ctl = s.lock.ctl := by
  unfold State.entered
  split <;> exact ⟨rfl, rfl, rfl⟩

/-- After a step that goes on the same operation runs the steps that are left. -/
theorem exec_command_of_step {i : Instr} {c : Command} (h : s.takes i c) (htop : t.codec.top = .inCommand)
    (hctl : t.ctl = s.lock.ctl) : exec i t = t.runCommand.outcome := by
  have hne : t.codec.top ≠ .topBegin ∧ t.codec.top ≠ .topEof := by rw [htop]; decide
  have hfailed : t.ctl.failed = s.ctl.failed := by rw [hctl]; rfl
  have hcfg : t.ctl.cfg = s.ctl.cfg := by rw [hctl]; rfl
  have htakes : t.takes i c := by
    rcases h with ⟨hi, henc, hopen, -⟩ | ⟨hi, hdec⟩
    · exact .inl ⟨hi, (State.encoding_congr hfailed hcfg).mpr henc, by rw [hctl]; exact hopen,
        fun hbegin => absurd hbegin hne.1⟩
    · exact .inr ⟨hi, (State.decoding_congr hfailed hcfg).mpr hdec⟩
  have hentered : t.entered c = t := by
    rw [State.entered, if_neg fun hand => hne.1 hand.2]
    exact State.lock_of_locked (by rw [hctl]; rfl)
  rw [exec_command hne.2 htakes, hentered]

end

/-- Settles O52: the operation is the run of `exec_command`, and a run follows its first step by `runCommand_ok`, whose
bound does not matter by `runCodec_eq`. -/
theorem commandIsItsSteps : Obligations.CommandIsItsSteps := by
  intro s c i heof htakes s'
  have hexec : exec i s = s'.runCommand.outcome := exec_command heof htakes
  obtain ⟨htop', hsub', hctl'⟩ := s.entered_codec c
  refine ⟨fun htop hsub => ?complete, fun hopen t => ?step⟩
  case complete =>
    have hs' : s' = s.lock := if_neg fun hand => absurd (htop.symm.trans hand.2) (by decide)
    rw [hexec, hs', runCommand_fullyCoded (s := s.lock) htop hsub, fullyDecodedStep_eq]
    rfl
  case step =>
    have hopen' : ¬ (s'.codec.top = .inCommand ∧ s'.codec.substate = .fullyDecoded) := fun ⟨hin, hlast⟩ =>
      hopen.elim (fun hbegin => absurd ((htop'.trans hbegin).symm.trans hin) (by decide))
        fun hne => hne (hsub'.symm.trans hlast)
    refine ⟨fun h => ?_, fun w h => ?_, fun h => ?_⟩
    · obtain ⟨htop, -, hctl⟩ := codecStep_ok hopen' h
      rw [hexec, runCommand_ok hopen' h, exec_command_of_step htakes htop (hctl.trans hctl')]
    · rw [hexec, runCommand_wait hopen' h]
      rfl
    · rw [hexec, runCommand_fail hopen' h]
      rfl

end Sys2Proof.Machine
end

section
/-! SUPPORT. The EOF command in `DIRECT16` mode (R301, R302, R330): one type step codes its nibble, and the steps after
it code none. -/

namespace Sys2Proof.Machine

section
variable {s : State}

/-- The state after the type step of an EOF command, with `e` in ANS2: its cell is blended, and the command is open
(R262, R301). -/
def State.eofOpened (e : Ans2) (s : State) : State :=
  { s with
    ctx := { s.ctx with lastCmd := 15 }
    codec := { top := .inCommand, substate := .begin, cmd := Command.blank 15 }
    model := { s.model with
      priors := Memory.write defaultCdf s.model.priors s.typeCell (blend (s.prior s.typeCell) 15 5) }
    ans2 := e }

/-- The row of nibble 15 opens an EOF command (R301). -/
theorem typeRow_eof (hf : s.ctl.failed = false) (htop : s.codec.top = .topBegin)
    (hcmd : s.isDecode = false → s.codec.cmd = Command.blank 15) :
    applyRow .cmdType 15 s = .ok () { s with
      ctx := { s.ctx with lastCmd := 15 }
      codec := { top := .inCommand, substate := .begin, cmd := Command.blank 15 } } := by
  have hx : s.expects = some .cmdType := by simp [State.expects, hf, htop]
  have hopened : (if s.isDecode then Command.blank 15 else { s.codec.cmd with kind := 15 }) = Command.blank 15 := by
    split
    · rfl
    · next hd => rw [hcmd (by simpa using hd)]; rfl
  have hbody : rowBody .cmdType 15 s = .ok () { s with
      ctx := { s.ctx with lastCmd := 15 }
      codec := { top := .inCommand, substate := .begin, cmd := Command.blank 15 } } := by
    rw [rowBody, if_pos (show (15 : Nibble) ∈ commandKinds by decide), beginCommand, hopened]
  rw [applyRow_of_exec ((exec_decodeNibble hx 15).trans (congrArg Reply.rowOutcome hbody))]
  exact if_neg (by simp [hf])

/-- The type step of an EOF command codes nibble 15 of its cell (R301). -/
theorem codecStep_eofType (htop : s.codec.top = .topBegin)
    (hcode : s.canCode (s.prior s.typeCell) s.codec.cmd.kind 15)
    (hcmd : s.isDecode = false → s.codec.cmd = Command.blank 15) :
    ∃ e, s.codedAs (s.prior s.typeCell) 15 e ∧ codecStep s = .ok () (s.eofOpened e) := by
  obtain ⟨e, hcoded, hagainst⟩ := codeAgainst_of_canCode hcode
  have htable : s.tableNibble = some ⟨.cmdType, s.typeCell, 5, s.codec.cmd.kind⟩ := by
    unfold State.tableNibble
    rw [htop]
    rfl
  refine ⟨e, hcoded, ?_⟩
  rw [(codecStep_tableNibble htable).1, TableNibble.step, tableStep, codeNibble, hagainst]
  exact typeRow_eof (s := ({ s with ans2 := e } : State).setPrior s.typeCell (blend (s.prior s.typeCell) 15 5))
    hcode.1 htop hcmd

/-- An EOF command whose nibble is coded is coded whole, and ends the file (R302, R330). -/
theorem runCommand_eof (htop : s.codec.top = .topBegin)
    (hcode : s.canCode (s.prior s.typeCell) s.codec.cmd.kind 15)
    (hcmd : s.isDecode = false → s.codec.cmd = Command.blank 15) :
    ∃ e, s.codedAs (s.prior s.typeCell) 15 e ∧
      s.runCommand = .ok (if s.isDecode then .command (Command.blank 15) else .nothing)
        (fullyDecodedStep ((s.eofOpened e).goto .fullyDecoded)) := by
  obtain ⟨e, hcoded, htype⟩ := codecStep_eofType htop hcode hcmd
  have hbegin : codecStep (s.eofOpened e) = .ok () ((s.eofOpened e).goto .fullyDecoded) :=
    codecStep_begin rfl rfl (k := 15) rfl (by decide)
  refine ⟨e, hcoded, ?_⟩
  rw [runCommand_ok (fun hand => absurd (htop.symm.trans hand.1) (by decide)) htype,
    runCommand_ok (fun hand => absurd (show Substate.begin = .fullyDecoded from hand.2) (by decide)) hbegin,
    runCommand_fullyCoded rfl rfl]
  rfl

end

/-- Settles O49: in either session the operation is the run of an EOF command, from a state that can code its nibble. -/
theorem eofCommand : Obligations.EofCommand := by
  intro s hdirect htop a x coded hvalid hpdf
  refine ⟨fun henc hopen hroom => ?encode, fun hdec hboot hpull hlo hhi => ?decode⟩
  case encode =>
    have hentered : s.entered (Command.blank 15) = s.lock.setCmd fun _ => Command.blank 15 := if_pos ⟨henc.2, htop⟩
    have hcode : (s.lock.setCmd fun _ => Command.blank 15).canCode x (Command.blank 15).kind 15 :=
      ⟨henc.1, hdirect, hvalid, hpdf, fun _ => ⟨hopen, hroom, rfl⟩,
        fun hd => absurd (henc.2.symm.trans hd) (by decide)⟩
    obtain ⟨e, ⟨he, -⟩, hrun⟩ := runCommand_eof (s := s.lock.setCmd fun _ => Command.blank 15) htop hcode fun _ => rfl
    rw [exec_command (c := Command.blank 15) (by rw [htop]; decide) (.inl ⟨rfl, henc, hopen, fun _ => by decide⟩),
      hentered, hrun, he henc.2, if_neg (by simpa using henc.2)]
    rfl
  case decode =>
    have hcode : s.lock.canCode x s.lock.codec.cmd.kind 15 :=
      ⟨hdec.1, hdirect, hvalid, hpdf, fun he => absurd (hdec.2.symm.trans he) (by decide),
        fun _ => ⟨hboot, hpull, hlo, hhi⟩⟩
    obtain ⟨e, ⟨-, he⟩, hrun⟩ := runCommand_eof (s := s.lock) htop hcode
      fun he => absurd (hdec.2.symm.trans he) (by decide)
    obtain ⟨t, hadvance, hsuccess, rfl⟩ := he hdec.2
    rw [exec_nDecAdvanceSym (s := s.lock) hdec] at hadvance
    refine ⟨t, (exec_nDecAdvanceSym hdec _ _).trans hadvance, hsuccess, ?_⟩
    have hentered : s.entered (Command.blank 15) = s.lock :=
      if_neg fun hand => absurd (hdec.2.symm.trans hand.1) (by decide)
    rw [exec_command (c := Command.blank 15) (by rw [htop]; decide) (.inr ⟨rfl, hdec⟩), hentered, hrun,
      if_pos (show s.lock.isDecode = true from hdec.2)]
    rfl

end Sys2Proof.Machine
end

section
/-! SUPPORT. Sessions: `RESET`, `SET_CFG` and `GET_STATUS` (R340 to R343), and which operations are legal and lock
(R348, R349). -/

namespace Sys2Proof.Machine

/-! ### RESET -/

/-- Count `i` of the reset contents of a cell (R44). -/
theorem cdf_defaultCdf {i : Nat} (hi : i < 16) : cdf defaultCdf i = 4 * (i + 1) := by
  interval_cases i <;> rfl

/-- Settles O5: the state `RESET` leaves is the reset state, whose memories list no cell. -/
theorem resetRestoresEverything : Obligations.ResetRestoresEverything := by
  intro s
  have hstatus : State.reset.status = 0 := by decide
  refine ⟨_, rfl, rfl, rfl, rfl, hstatus, ⟨rfl, rfl, rfl, rfl, rfl⟩, ⟨rfl, rfl, rfl, rfl, rfl, rfl⟩, rfl, ?registers,
    rfl, ⟨rfl, rfl, rfl, fun _ => rfl, fun _ => rfl⟩, ?memories⟩
  case registers =>
    exact ⟨rfl, rfl, rfl, rfl, rfl, rfl, rfl, rfl, rfl, rfl, rfl, rfl, fun i => Vector.getElem_replicate i.isLt,
      fun i => Vector.getElem_replicate i.isLt⟩
  case memories =>
    exact ⟨fun _ => rfl, fun _ => rfl, fun _ => rfl, fun _ => rfl, fun _ => rfl, fun _ _ => cdf_defaultCdf,
      fun _ => cdf_defaultCdf, fun _ => rfl⟩

/-! ### SET_CFG -/

section
variable {s : State} {cfg : BitVec 8} (hf : s.ctl.failed = false)
include hf

theorem exec_setCfg_locked (hlocked : s.ctl.cfgLocked = true) :
    exec (.setCfg cfg) s = .next (s.failEntry .protocolViolation) :=
  (show execSetCfg cfg s = _ from runOp_legal hf rfl).trans (congrArg Reply.outcome (if_pos hlocked))

theorem exec_setCfg_illegal (hopen : s.ctl.cfgLocked = false) (hcfg : legalCfg cfg = false) :
    exec (.setCfg cfg) s = .next (s.failEntry .illegalConfiguration) :=
  (show execSetCfg cfg s = _ from runOp_legal hf rfl).trans
    (congrArg Reply.outcome ((if_neg (by simp [hopen])).trans (if_neg (by simp [hcfg]))))

theorem exec_setCfg_legal (hopen : s.ctl.cfgLocked = false) (hcfg : legalCfg cfg = true) :
    exec (.setCfg cfg) s = .next ((s.configured cfg).answer .success .nothing) :=
  (show execSetCfg cfg s = _ from runOp_legal hf rfl).trans
    (congrArg Reply.outcome ((if_neg (by simp [hopen])).trans (if_pos hcfg)))

end

/-- Settles O6: the three cases of `SET_CFG`, and the registers of either mode. -/
theorem setCfgConfigures : Obligations.SetCfgConfigures := by
  intro s cfg hf
  refine ⟨exec_setCfg_locked hf, fun hopen hbits => exec_setCfg_illegal hf hopen ?illegal,
    fun hopen h3 hbits => ?legal⟩
  case illegal =>
    rw [← Bool.not_eq_true, legalCfg_iff]
    rintro ⟨h3, h21⟩
    rcases hbits with hbit | ⟨h1, h2⟩
    · exact absurd (hbit.symm.trans h3) (by decide)
    · exact absurd (h2.symm.trans (h21 h1)) (by decide)
  case legal =>
    have hlegal : legalCfg cfg = true :=
      (legalCfg_iff cfg).mpr ⟨h3, fun h1 => hbits.resolve_left fun h => absurd (h.symm.trans h1) (by decide)⟩
    rw [exec_setCfg_legal hf hopen hlegal, State.configured]
    cases cfg.getLsbD 0 <;> rfl

/-! ### GET_STATUS -/

/-- The fields of `STATUS`, least significant first (R35). -/
theorem State.status_bits (s : State) :
    s.status.extractLsb' 0 2 = s.ctl.result.code ∧ s.status.getLsbD 2 = s.ctl.failed ∧
      s.status.getLsbD 3 = s.ctx.eofSeen ∧ s.status.getLsbD 4 = s.ctl.cfgLocked ∧
      s.status.getLsbD 5 = s.ctl.encFinished ∧ s.status.getLsbD 6 = s.bytesNeeded ∧
      s.status.getLsbD 7 = s.bt.active := by
  refine ⟨?result, ?_, ?_, ?_, ?_, ?_, ?_⟩
  case result =>
    refine BitVec.eq_of_getLsbD_eq fun i hi => ?_
    simp only [State.status, BitVec.getLsbD_extractLsb', BitVec.getLsbD_append, Nat.zero_add, hi, decide_true,
      Bool.true_and, if_true]
  all_goals simp only [State.status, BitVec.getLsbD_append, BitVec.getLsbD_ofBool, Nat.reduceLT, Nat.reduceSub,
    decide_true, Bool.true_and, if_true, if_false]

/-- When bytes are needed (R343). -/
theorem State.bytesNeeded_iff (s : State) :
    s.bytesNeeded = true ↔ s.ctl.cfg.getLsbD 0 = true ∧
      ((s.ctl.cfg.getLsbD 1 = true ∧ (s.ans2.bootNeed ≠ 0 ∨ s.ans2.pullNeed ≠ 0)) ∨
        (s.ctl.cfg.getLsbD 1 = false ∧ s.ans1.phase ≠ .run)) := by
  rw [State.bytesNeeded, Bool.and_eq_true]
  refine and_congr_right fun _ => ?_
  rw [show s.engineAns2 = s.ctl.cfg.getLsbD 1 from rfl]
  cases s.ctl.cfg.getLsbD 1 <;> simp

/-- Settles O7: the answer of `GET_STATUS` is `STATUS`, read field by field. -/
theorem getStatusReads : Obligations.GetStatusReads := by
  intro s
  obtain ⟨hresult, hfailed, heof, hlocked, hfinished, hneeded, hactive⟩ := s.status_bits
  exact ⟨s.status, rfl, hresult, hfailed, heof, hlocked, hfinished, hactive, hneeded ▸ s.bytesNeeded_iff⟩

/-! ### Legality and the lock -/

/-- The sessions in which an operation is legal, by the lists of R348. -/
def legality (i : Instr) : Legal := if encodeOnly i then .encode else if decodeOnly i then .decode else .always

/-- Every operation but `RESET` and `GET_STATUS` is run by `runOp`, with the legality of R348 and the lock of R349. -/
theorem exec_eq_runOp {i : Instr} (hop : isOperation i = true) (hreset : i ≠ .reset) (hstatus : i ≠ .getStatus) :
    ∃ body, ∀ s, exec i s = runOp (legality i) (!nonLocking i) body s := by
  unfold exec
  cases i with
  | reset => exact absurd rfl hreset
  | getStatus => exact absurd rfl hstatus
  | setCfg | encodeCmd | decodeCmd | encFinish | bqNumPushAvail | bqNumPopAvail | bqPushData | bqPopData
  | bEncodeInit | bEncode | bEncodeFlush | bDecodeInit | bDecode | bDecodeWillAdvance | bDecodeAdvance
  | bChunkPutBit | bChunkFlush | bChunkGetBit | b1memWrite | b1memRead
  | nEncPut | nFlushChunk | nDecFill | nDecGetOffset | nDecAdvanceSym | nPutBit | nGetBit
  | pCdf | pPdf | pMax | pLogMax | pBlend | pAverage | pSymToStartFreq | pOffsetToSym | pValid | pRead | pWrite
  | p2Blend | p2Prob | p2OffsetToSym | tPutNibble | tGetNibble | tPutBit | tGetBit => exact ⟨_, fun _ => rfl⟩
  | _ => cases hop

/-- The lists of R348 are of operations, and no operation is in both. -/
theorem isOperation_of_encodeOnly {i : Instr} (h : encodeOnly i = true) :
    isOperation i = true ∧ decodeOnly i = false := by
  cases i with
  | bChunkPutBit | bChunkFlush | nEncPut | nFlushChunk | nPutBit | tPutBit | tPutNibble | encodeCmd | encFinish =>
    exact ⟨rfl, rfl⟩
  | _ => cases h

theorem isOperation_of_decodeOnly {i : Instr} (h : decodeOnly i = true) : isOperation i = true := by
  cases i with
  | bChunkGetBit | nDecFill | nDecGetOffset | nDecAdvanceSym | nGetBit | tGetBit | tGetNibble | decodeCmd => rfl
  | _ => cases h

/-- An operation is not legal exactly in the other kind of session than the one it is listed for (R348). -/
theorem legality_allows_eq_false {i : Instr} {s : State} :
    (legality i).allows s = false ↔
      (encodeOnly i = true ∧ s.isDecode = true) ∨ (decodeOnly i = true ∧ s.isDecode = false) := by
  unfold legality
  cases henc : encodeOnly i with
  | true => simp [Legal.allows, (isOperation_of_encodeOnly henc).2]
  | false => cases hdec : decodeOnly i <;> simp [Legal.allows]

/-- Where the configuration is locked, only `RESET` unlocks it. -/
theorem Performed.cfgLocked {W : Part → Bool} {s t : State} (h : Performed W s t) (hs : s.ctl.cfgLocked = true) :
    t.ctl.cfgLocked = true := by
  have entered {e u : State} (he : s.enters W e) (hu : Moves W e u) : u.ctl.cfgLocked = true := by
    rw [hu.cfgLocked_eq]
    rcases he.2 with rfl | ⟨rfl, -⟩
    · rfl
    · exact hs
  cases h with
  | refused => exact hs
  | rejected => exact hs
  | answered r ret he hu => exact (entered he hu :)
  | raised c he hu => exact (entered he hu :)

theorem exec_cfgLocked {i : Instr} {s t : State} (hreset : i ≠ .reset) (h : exec i s = .next t)
    (hs : s.ctl.cfgLocked = true) : t.ctl.cfgLocked = true := by
  cases exec_executed h with
  | reset hi => exact absurd hi hreset
  | status => exact hs
  | configured _ _ hopen => exact absurd (hs.symm.trans hopen) (by decide)
  | operation h => exact h.cfgLocked hs
  | row _ hm => exact hm.cfgLocked_eq.trans hs
  | rowRaised _ _ hm => exact hm.cfgLocked_eq.trans hs

theorem Legal.allows_lock (legal : Legal) (s : State) : legal.allows s.lock = legal.allows s := by
  cases legal <;> rfl

/-- A locking operation that is legal does in a session what it does in the locked one (R349). -/
theorem exec_lock {i : Instr} {s : State} (hop : isOperation i = true) (hlocking : nonLocking i = false)
    (hf : s.ctl.failed = false) (hlegal : (legality i).allows s = true) : exec i s = exec i s.lock := by
  have hreset : i ≠ .reset := by rintro rfl; cases hlocking
  have hstatus : i ≠ .getStatus := by rintro rfl; cases hlocking
  obtain ⟨body, hexec⟩ := exec_eq_runOp hop hreset hstatus
  have hallows : (legality i).allows s.lock = true := (Legal.allows_lock _ s).trans hlegal
  rw [hexec, hexec, hlocking, runOp_legal hf hlegal, runOp_legal (s := s.lock) hf hallows]
  rfl

/-- An operation that does not lock leaves the lock, but for `RESET` (R349). -/
theorem exec_nonLocking {i : Instr} {s t : State} (hf : s.ctl.failed = false) (hfree : nonLocking i = true)
    (hreset : i ≠ .reset) (h : exec i s = .next t) : t.ctl.cfgLocked = s.ctl.cfgLocked := by
  cases i with
  | reset => exact absurd rfl hreset
  | getStatus => cases h; rfl
  | setCfg cfg =>
    cases hopen : s.ctl.cfgLocked with
    | true => rw [exec_setCfg_locked hf hopen] at h; cases h; exact hopen
    | false =>
      cases hcfg : legalCfg cfg with
      | true =>
        rw [exec_setCfg_legal hf hopen hcfg] at h
        cases h
        rw [State.answer_ctl, State.configured_ctl]
        exact hopen
      | false => rw [exec_setCfg_illegal hf hopen hcfg] at h; cases h; exact hopen
  | bqNumPushAvail q => rw [exec_bqNumPushAvail hf] at h; cases h; rfl
  | bqNumPopAvail q => rw [exec_bqNumPopAvail hf] at h; cases h; rfl
  | bqPushData q src => rw [exec_bqPushData hf] at h; cases h; rfl
  | bqPopData q len => rw [exec_bqPopData hf] at h; cases h; rfl
  | _ => cases hfree

/-- Settles O10: legality is a check of `runOp`, and a locking operation does what it does in a locked session, which
nothing but `RESET` unlocks. -/
theorem modesAndLocking : Obligations.ModesAndLocking := by
  refine ⟨fun i s hf hmode => ?illegal, fun i s t hop hf henc hdec h => ?locks⟩
  case illegal =>
    have hop : isOperation i = true :=
      hmode.elim (fun h => (isOperation_of_encodeOnly h.1).1) fun h => isOperation_of_decodeOnly h.1
    have unlisted {j : Instr} (henc : encodeOnly j = false) (hdec : decodeOnly j = false) : i ≠ j := by
      rintro rfl
      simp [henc, hdec] at hmode
    obtain ⟨body, hexec⟩ := exec_eq_runOp hop (unlisted rfl rfl) (unlisted rfl rfl)
    rw [hexec, runOp_illegal hf (legality_allows_eq_false.mpr hmode)]
  case locks =>
    by_cases hreset : i = .reset
    · subst hreset
      cases h
      rfl
    · rw [if_neg hreset]
      cases hlocking : nonLocking i with
      | true => exact exec_nonLocking hf hlocking hreset h
      | false =>
        have hlegal : (legality i).allows s = true := by
          rw [← Bool.not_eq_false, legality_allows_eq_false]
          exact not_or.mpr ⟨henc, hdec⟩
        rw [exec_lock hop hlocking hf hlegal] at h
        exact exec_cfgLocked hreset h rfl

end Sys2Proof.Machine
end

section
/-! SUPPORT. What `ENC_FINISH` does (R346), and what the command operations refuse (R344, R345). -/

namespace Sys2Proof.Machine

/-! ### ENC_FINISH -/

/-- The flush of the configured engine (R153, R173). -/
def engineFlush (s : State) : Reply Unit := if s.engineAns2 then symFlush s else chunkFlush s

/-- Nothing is buffered in the configured engine (R346). -/
def State.engineEmpty (s : State) : Prop := if s.engineAns2 then s.ans2.symCount = 0 else s.ans1.count = 0

section
variable {s : State}

theorem engineFlush_empty (h : s.engineEmpty) : engineFlush s = .ok () s := by
  unfold State.engineEmpty at h
  split at h
  · exact (if_pos ‹_›).trans (symFlush_empty h)
  · exact (if_neg ‹_›).trans (chunkFlush_empty h)

theorem engineFlush_waits (h : ¬ s.engineEmpty) (ho : s.queues.outLo.toNat < 65536) :
    engineFlush s = .wait .output s := by
  unfold State.engineEmpty at h
  split at h
  · exact (if_pos ‹_›).trans (symFlush_waits h ho)
  · exact (if_neg ‹_›).trans (chunkFlush_waits h ho)

theorem engineFlush_ends {W : Part → Bool} (h1 : W .ans1 = true) (h2 : W .ans2 = true) (hq : W .queues = true)
    (he : W .encFinished = true) : (engineFlush s).Ends (Moves W s) := by
  unfold engineFlush
  split
  · exact symFlush_ends h2 hq he
  · exact chunkFlush_ends h1 hq

section
variable (henc : s.encoding)
include henc

/-- The flush operation of the configured engine is its flush. -/
theorem exec_engineFlush : exec (if s.engineAns2 then .nFlushChunk else .bChunkFlush) s =
    ((engineFlush s.lock).map fun _ => Returns.nothing).outcome := by
  rw [engineFlush, State.lock_engineAns2]
  split
  · exact exec_nFlushChunk henc
  · exact exec_bChunkFlush henc

theorem exec_encFinish_inside (h : s.codec.top = .inCommand ∨ s.bt.active = true) :
    exec .encFinish s = .next (s.lock.failEntry .protocolViolation) :=
  (show execEncFinish s = _ from runOp_legal henc.1 (congrArg not henc.2)).trans (congrArg Reply.outcome (if_pos h))

/-- Outside a command and a bit-tree nibble it flushes the configured engine and finishes. -/
theorem exec_encFinish (h : ¬ (s.codec.top = .inCommand ∨ s.bt.active = true)) :
    exec .encFinish s = ((engineFlush s.lock).bind fun _ u =>
      .ok .nothing { u with ctl := { u.ctl with encFinished := true } }).outcome :=
  (show execEncFinish s = _ from runOp_legal henc.1 (congrArg not henc.2)).trans (congrArg Reply.outcome (if_neg h))

end

end

/-- Settles O8: what the flush of the configured engine answers, and `enc_finished` after it. -/
theorem encFinishOutcomes : Obligations.EncFinishOutcomes := by
  intro s henc
  refine ⟨exec_encFinish_inside henc, fun htop hactive => ?_⟩
  have hexec := exec_encFinish henc (not_or.mpr ⟨htop, by simp [hactive]⟩)
  refine ⟨fun hempty => ?empty, fun hsome ho => ?waits, fun t ht hr => ?flushed⟩
  case empty =>
    rw [hexec, engineFlush_empty (s := s.lock) hempty]
    rfl
  case waits =>
    have hbuffered : ¬ s.lock.engineEmpty := by
      show ¬ if s.engineAns2 then s.ans2.symCount = 0 else s.ans1.count = 0
      split at hsome
      · rwa [if_pos ‹_›]
      · rwa [if_neg ‹_›]
    rw [hexec, engineFlush_waits hbuffered ho]
    rfl
  case flushed =>
    rw [exec_engineFlush henc] at ht
    have hends := (engineFlush_ends (W := fun _ => true) (s := s.lock) rfl rfl rfl rfl).map
      (f := fun _ => Returns.nothing)
    obtain ⟨ret, u, hok, rfl⟩ := Reply.ok_of_success hends ht hr
    obtain ⟨_, hflush, rfl⟩ := Reply.map_eq_ok.mp hok
    rw [hexec, hflush]
    rfl

/-! ### What the command operations refuse -/

section
variable {s : State}

theorem exec_encodeCmd_closed {c : Command} (henc : s.encoding)
    (h : s.ctl.encFinished = true ∨ s.codec.top = .topEof) :
    exec (.encodeCmd c) s = .next (s.lock.failEntry .protocolViolation) :=
  (show execEncodeCmd c s = _ from runOp_legal henc.1 (congrArg not henc.2)).trans
    (congrArg Reply.outcome (if_pos h))

theorem exec_decodeCmd_closed (hdec : s.decoding) (h : s.codec.top = .topEof) :
    exec .decodeCmd s = .next (s.lock.failEntry .protocolViolation) :=
  (show execDecodeCmd s = _ from runOp_legal hdec.1 hdec.2).trans (congrArg Reply.outcome (if_pos h))

/-- At a boundary a command that is not valid is refused before anything is coded (R344). -/
theorem exec_encodeCmd_invalid {c : Command} (henc : s.encoding) (hopen : s.ctl.encFinished = false)
    (htop : s.codec.top = .topBegin) (hc : validCommand c = false) :
    exec (.encodeCmd c) s = .next (s.lock.failEntry .protocolViolation) := by
  have hbody : ¬ (s.lock.ctl.encFinished = true ∨ s.lock.codec.top = .topEof) := by simp [hopen, htop]
  have hlatch : latchCommand c s.lock = raise .protocolViolation s.lock :=
    (if_pos htop).trans (if_neg (by simp [hc]))
  show execEncodeCmd c s = _
  rw [execEncodeCmd, runOp_legal (legal := .encode) henc.1 (congrArg not henc.2)]
  show (if s.lock.ctl.encFinished = true ∨ s.lock.codec.top = .topEof then _
    else (latchCommand c s.lock).bind _ : Reply Returns).outcome = _
  rw [if_neg hbody, hlatch]
  rfl

end

/-- A valid command is of a kind of R97, and meets the bounds of its kind (R344). -/
theorem validCommand_bounds {c : Command} (h : validCommand c = true) :
    c.kind ∈ commandKinds ∧ ¬ (c.kind = 1 ∧ c.distance = 0) ∧
      ¬ (c.kind = 3 ∧ (Config.literalMaxLen < c.len.toNat ∨ c.data.length ≠ c.len.toNat)) ∧
      ¬ (c.kind = 7 ∧ (16384 < c.litMap.length ∨ 1024 < c.distMap.length)) := by
  have hkinds : ∀ k : Nibble, k.toNat ∈ [1, 2, 3, 4, 5, 6, 7, 15] → k ∈ commandKinds := by decide
  simp only [validCommand, Bool.and_eq_true, Bool.not_eq_true', ← Bool.not_eq_true, Bool.or_eq_true,
    decide_eq_true_eq] at h
  obtain ⟨⟨⟨hkind, hcopy⟩, hliteral⟩, hmaps⟩ := h
  exact ⟨hkinds c.kind hkind, hcopy, hliteral, hmaps⟩

/-- Settles O48: the three checks that come before the codec steps. -/
theorem commandValidation : Obligations.CommandValidation := by
  refine fun s c => ⟨exec_encodeCmd_closed, exec_decodeCmd_closed, fun henc hopen htop hbad =>
    exec_encodeCmd_invalid henc hopen htop ?_⟩
  rw [← Bool.not_eq_true]
  intro hvalid
  obtain ⟨hkind, hcopy, hliteral, hmaps⟩ := validCommand_bounds hvalid
  rcases hbad with hbad | hbad | hbad | hbad
  · exact hbad hkind
  · exact hcopy hbad
  · exact hliteral hbad
  · exact hmaps hbad

end Sys2Proof.Machine
end

section
/-! SUPPORT. `ENCODE_CMD` and `DECODE_CMD` answer in every state (R360): the coders end in one of the four results, a row
answers where its table is read (log 2), and the loop ends before its bound (log 11). -/

namespace Sys2Proof.Machine

section
variable {α β : Type} {s : State}

/-! ### Replies that answer -/

theorem ok_answers (a : α) (s : State) : (Reply.ok a s).Answers := trivial

theorem Reply.Answers.bind {x : Reply α} {k : α → State → Reply β} (h : x.Answers)
    (hk : ∀ a u, x = .ok a u → (k a u).Answers) : (x.bind k).Answers := by
  cases x with
  | ok a u => exact hk a u rfl
  | wait w u => trivial
  | fail u => trivial
  | refused r => exact h
  | fault f => exact h

theorem Reply.Answers.map {x : Reply α} {f : α → β} (h : x.Answers) : (x.map f).Answers := h.bind fun _ _ _ => trivial

theorem Reply.Answers.outcome {x : Reply Returns} (h : x.Answers) : ∃ t, x.outcome = .next t := by
  cases x with
  | refused r => exact h.elim
  | fault f => exact h.elim
  | _ => exact ⟨_, rfl⟩

/-- An operation whose body answers gives a next state. -/
theorem runOp_answers {legal : Legal} {locking : Bool} {body : State → Reply Returns}
    (h : ∀ e, e.ctl.failed = false → (body e).Answers) : ∃ t, runOp legal locking body s = .next t := by
  rcases runOp_cases legal locking body s with ⟨-, hrun⟩ | ⟨-, -, hrun⟩ | ⟨hf, -, hrun⟩ <;> rw [hrun]
  · exact ⟨_, rfl⟩
  · exact ⟨_, rfl⟩
  · refine (h _ ?_).outcome
    split <;> exact hf

theorem withDivisor_answers {k : Reply α} (d : Int) (h : k.Answers) : (withDivisor d s k).Answers :=
  .ite (raise_answers _ s) h

/-! ### ANS1 -/

theorem ansEncode_answers (bit : Bool) (p : Byte) (s : State) : (ansEncode bit p s).Answers :=
  .ite (raise_answers _ s) (.ite (.ite (raise_answers _ s) trivial) trivial)

theorem ansAdvance_answers (limit x1 : Nat) (s : State) : (ansAdvance limit x1 s).Answers :=
  .ite (.ite (raise_answers _ s) trivial) trivial

theorem chunkEncode_answers (n : Nat) (s : State) : (chunkEncode n s).Answers := by
  induction n generalizing s with
  | zero => trivial
  | succ n ih => exact (ansEncode_answers _ _ s).bind fun _ u _ => ih u

theorem chunkCode_answers (s : State) : (chunkCode s).Answers :=
  (chunkEncode_answers _ _).bind fun _ u _ => .ite (raise_answers _ u) trivial

theorem chunkFlush_answers (s : State) : (chunkFlush s).Answers :=
  .ite trivial (.ite trivial ((chunkCode_answers s).bind fun _ _ _ => trivial))

theorem chunkPutBit_answers (bit : Bool) (p : Byte) (s : State) : (chunkPutBit bit p s).Answers :=
  .ite (raise_answers _ s) (.ite (raise_answers _ s) ((Reply.Answers.ite (chunkFlush_answers s) (ok_answers () s)).bind
    fun _ _ _ => trivial))

theorem chunkHeader_answers (s : State) : (chunkHeader s).Answers :=
  .ite trivial (.ite trivial (.ite (raise_answers _ _) trivial))

theorem chunkPayload_answers (s : State) : (chunkPayload s).Answers := .ite trivial (.ite trivial trivial)

/-- With no pass left the loop of R154 waits. -/
theorem chunkGetLoop_answers (p : Byte) (n : Nat) (s : State) : (chunkGetLoop p n s).Answers := by
  induction n generalizing s with
  | zero => trivial
  | succ n ih =>
    exact (chunkHeader_answers s).bind fun _ u _ => (chunkPayload_answers u).bind fun _ v _ =>
      .ite (ih _) (ansAdvance_answers _ _ v).map

theorem chunkGetBit_answers (p : Byte) (s : State) : (chunkGetBit p s).Answers :=
  .ite (raise_answers _ s) (chunkGetLoop_answers p _ s)

/-! ### ANS2 -/

theorem symFlush_answers (s : State) : (symFlush s).Answers := by
  rcases symFlush_cases s with ⟨-, h⟩ | h | h <;> rw [h] <;> trivial

theorem symPut_answers (start freq : BitVec 16) (s : State) : (symPut start freq s).Answers :=
  .ite (raise_answers _ s) (.ite (raise_answers _ s) (.ite (raise_answers _ s)
    ((Reply.Answers.ite (symFlush_answers s) (ok_answers () s)).bind fun _ _ _ => trivial)))

theorem symPutBit_answers (bit : Bool) (p : Byte) (s : State) : (symPutBit bit p s).Answers :=
  .ite (raise_answers _ s) (symPut_answers _ _ s)

theorem symOffset_answers (s : State) : (symOffset s).Answers := by
  unfold symOffset
  rcases symFill_cases s with ⟨u, h, -⟩ | ⟨u, h⟩ <;> rw [h] <;> trivial

theorem symAdvance_answers (start freq : BitVec 16) (s : State) : (symAdvance start freq s).Answers :=
  .ite (raise_answers _ s) (.ite (raise_answers _ s) (.ite trivial (raise_answers _ s)))

theorem symGetBit_answers (p : Byte) (s : State) : (symGetBit p s).Answers :=
  .ite (raise_answers _ s) ((symOffset_answers s).bind fun _ u _ => (symAdvance_answers _ _ u).map)

/-! ### The nibble protocol -/

theorem putBit_answers (bit : Bool) (p : Byte) (s : State) : (putBit bit p s).Answers :=
  .ite (symPutBit_answers bit p s) (chunkPutBit_answers bit p s)

theorem getBit_answers (p : Byte) (s : State) : (getBit p s).Answers :=
  .ite (symGetBit_answers p s) (chunkGetBit_answers p s)

theorem putTree_answers (x : Cdf16) (nibble : Nibble) (n : Nat) (s : State) : (putTree x nibble n s).Answers := by
  induction n generalizing s with
  | zero => trivial
  | succ n ih => exact withDivisor_answers _ ((putBit_answers _ _ s).bind fun _ _ _ => ih _)

theorem getTree_answers (x : Cdf16) (n : Nat) (s : State) : (getTree x n s).Answers := by
  induction n generalizing s with
  | zero => trivial
  | succ n ih => exact withDivisor_answers _ ((getBit_answers _ s).bind fun _ _ _ => ih _)

theorem putNibble_answers (x : Cdf16) (nibble : Nibble) (s : State) : (putNibble x nibble s).Answers :=
  .ite (withDivisor_answers _ (symPut_answers _ _ s)) (putTree_answers x nibble _ _)

theorem getNibble_answers (x : Cdf16) (s : State) : (getNibble x s).Answers :=
  .ite ((symOffset_answers s).bind fun _ _ _ => withDivisor_answers _
    (.ite (raise_answers _ _) (symAdvance_answers _ _ _).map)) (getTree_answers x _ _)

theorem codeAgainst_answers (x : Cdf16) (want : Nibble) (s : State) : (codeAgainst x want s).Answers :=
  .ite (getNibble_answers x s) (putNibble_answers x want s).map

theorem codeNibble_answers (a : Nat) (speed : BitVec 3) (want : Nibble) (s : State) :
    (codeNibble a speed want s).Answers := (codeAgainst_answers _ want s).bind fun _ _ _ => trivial

/-! ### The codec steps -/

theorem applyRow_answers {t : NibbleTable} (h : s.expects = some t) (v : Nibble) : (applyRow t v s).Answers := by
  obtain ⟨u, hu⟩ := exec_decodeNibble_answers h v
  rw [applyRow_of_exec hu]
  exact .ite trivial trivial

/-- Coding a nibble does not move the codec, so the row of the nibble meets the table its step reads (log 2). -/
theorem tableStep_answers {t : NibbleTable} (h : s.expects = some t) (a : Nat) (speed : BitVec 3) (want : Nibble) :
    (tableStep t a speed want s).Answers :=
  (codeNibble_answers a speed want s).bind fun v _ hu =>
    have ⟨hcodec, _, hctl⟩ := codeNibble_frame hu
    applyRow_answers ((State.expects_congr hctl hcodec).trans h) v

theorem cmapSlot_answers {map : Memory Byte} {len idx : Nat} {k : Nat → Reply Unit} (hk : ∀ slot, (k slot).Answers) :
    (cmapSlot map len idx s k).Answers := .ite (hk 0) (.ite (raise_answers _ s) (hk _))

theorem withDistSlot_answers {k : Nat → Reply Unit} (hk : ∀ slot, (k slot).Answers) : (withDistSlot s k).Answers :=
  cmapSlot_answers hk

theorem distanceNibble_answers (ld lr : BitVec 4) (dsf : BitVec 32) (n : Nibble) (s : State) :
    (distanceNibble ld lr dsf n s).Answers := .ite (.ite (raise_answers _ s) trivial) trivial

theorem mantissaNibble_answers (u : IntUser) (ld lr : BitVec 4) (dsf : BitVec 32) (n : Nibble) (s : State) :
    (mantissaNibble u ld lr dsf n s).Answers := .ite (complete_answers u _) trivial

theorem literalStep_answers (idx : BitVec 33) (s : State) : (literalStep idx s).Answers := by
  unfold literalStep literalUniformStep literalMixedStep withLitSlot
  split
  · exact (codeAgainst_answers _ _ s).bind fun _ _ _ => trivial
  · exact cmapSlot_answers fun _ => (codeAgainst_answers _ _ _).bind fun _ _ _ => trivial

theorem beginStep_answers (s : State) : (beginStep s).Answers := by
  unfold beginStep
  split <;> trivial

section
variable (htop : s.codec.top = .inCommand) (hf : s.ctl.failed = false)
include htop hf

theorem intStep_answers {u : IntUser} {stage : IntStage} (hsub : s.codec.substate = u.at stage) :
    (intStep u stage s).Answers := by
  have reads {t : NibbleTable} (ht : stage.table u.copyStyle = some t) : s.expects = some t :=
    expects_of_substate_table htop (by rw [hsub, u.at_table, ht]) hf
  cases stage with
  | mantissaNibbles ld lr dsf =>
    exact (codeNibble_answers _ _ _ s).bind fun n v _ => mantissaNibble_answers u ld lr dsf n v
  | _ => exact tableStep_answers (reads rfl) _ _ _

theorem substateStep_answers : (substateStep s).Answers := by
  have reads {t : NibbleTable} (ht : s.codec.substate.table = some t) (a : Nat) (speed : BitVec 3) (want : Nibble) :
      (tableStep t a speed want s).Answers := tableStep_answers (expects_of_substate_table htop ht hf) a speed want
  unfold substateStep
  cases hsub : s.codec.substate with
  | begin => exact beginStep_answers s
  | countDecoded => exact withDistSlot_answers fun _ => trivial
  | distanceLengthMnemonic | distanceLengthFirst =>
    exact withDistSlot_answers fun _ => reads (by rw [hsub]; rfl) _ _ _
  | distanceMantissaNibbles =>
    exact withDistSlot_answers fun _ =>
      (codeNibble_answers _ _ _ s).bind fun n u _ => distanceNibble_answers _ _ _ n u
  | literalNibbleIndex idx => exact literalStep_answers idx s
  | literalHighEntropy | predMode | predSpeedStride | predSpeedCm | mapEntryMnemonic =>
    exact reads (by rw [hsub]; rfl) _ _ _
  | blockTypeHigh | blockTypeLow | mapEntryHigh | mapEntryLow =>
    exact (codeNibble_answers _ _ _ s).bind fun _ _ _ => trivial
  | fullyDecoded => trivial
  | _ => exact intStep_answers htop hf hsub

end

theorem codecStep_answers (hf : s.ctl.failed = false) : (codecStep s).Answers := by
  unfold codecStep
  cases htop : s.codec.top with
  | topBegin => exact tableStep_answers (by simp [State.expects, hf, htop]) _ _ _
  | inCommand => exact substateStep_answers htop hf
  | topEof => exact raise_answers _ s

/-! ### The loop -/

/-- With a bound above the steps left the loop does not reach it (log 11). -/
theorem runCodec_answers {n : Nat} (hf : s.ctl.failed = false) (hn : s.stepsLeft < n) : (runCodec n s).Answers := by
  induction n generalizing s with
  | zero => cases hn
  | succ n ih =>
    by_cases hlast : s.codec.top = .inCommand ∧ s.codec.substate = .fullyDecoded
    · rw [runCodec_fullyCoded hlast.1 hlast.2]
      trivial
    · rw [runCodec_open hlast]
      refine (codecStep_answers hf).bind fun _ u hu => ?_
      obtain ⟨-, hleft, hctl⟩ := codecStep_ok hlast hu
      exact ih (by rw [hctl]; exact hf) (by omega)

theorem runCodec_codecFuel_answers (hf : s.ctl.failed = false) : (runCodec s.codecFuel s).Answers :=
  runCodec_answers hf s.stepsLeft_lt_codecFuel

theorem latchCommand_answers (c : Command) (s : State) : (latchCommand c s).Answers :=
  .ite (.ite trivial (raise_answers _ s)) trivial

theorem latchCommand_failed {c : Command} {t : State} (h : latchCommand c s = .ok () t) :
    t.ctl.failed = s.ctl.failed := by
  have hends := latchCommand_ends (W := fun _ => true) (s := s) rfl c
  rw [h] at hends
  exact Moves.failed_eq hends

end

/-- Settles O51: in a session that has not failed every codec step answers, and the loop ends before its bound. -/
theorem commandsAlwaysAnswer : Obligations.CommandsAlwaysAnswer := by
  intro s
  refine ⟨fun c => ?encode, ?decode⟩
  case encode =>
    show ∃ t, execEncodeCmd c s = .next t
    refine runOp_answers fun e hf => .ite (raise_answers _ e) ((latchCommand_answers c e).bind fun _ u hu => ?_)
    exact (runCodec_codecFuel_answers ((latchCommand_failed hu).trans hf)).map
  case decode =>
    show ∃ t, execDecodeCmd s = .next t
    exact runOp_answers fun e hf =>
      .ite (raise_answers _ e) ((runCodec_codecFuel_answers hf).bind fun _ _ _ => trivial)

end Sys2Proof.Machine
end

section
/-! SUPPORT. What the operations keep of the cells and weights (R369, R313): a blend with any symbol, a CDF2 blend and a
weight update keep what they start from in range, so every move does. -/

namespace Sys2Proof.Machine

/-! ### Cells and weights as values -/

/-- A rescale keeps a valid cell valid: the decayed counts still rise (R210). -/
theorem validCell_rescale {x : Cdf16} (hv : validCell x = true) : validCell (rescale x) = true := by
  obtain ⟨hpdf, htotal⟩ := validCell_iff_pdf.mp hv
  obtain ⟨hfirst, hrise⟩ := (le_pdf_iff Nat.one_pos).mp hpdf
  refine validCell_iff_pdf.mpr ⟨(le_pdf_iff Nat.one_pos).mpr ⟨?first, fun i hi => ?rises⟩, ?total⟩
  case first =>
    rw [cdf_rescale _ (by omega)]
    unfold decay
    omega
  case rises =>
    rw [cdf_rescale _ (by omega), cdf_rescale _ (by omega)]
    exact decay_rises (by omega) (hrise i hi)
  case total =>
    rw [cdf_rescale _ (by omega)]
    unfold decay
    omega

/-- A raise from beyond the last bucket raises nothing. -/
theorem raiseFrom_of_le {sym : Nat} (h : 16 ≤ sym) (x : Cdf16) (inc : Nat) : raiseFrom x sym inc = x := by
  ext i hi
  have hbelow : ¬ sym ≤ i := by omega
  simp [raiseFrom, hbelow]

/-- `Move.blend` names its symbol by a number, so `validCell_blend` is needed beyond the sixteen symbols too, where only
the rescale is left of a blend. -/
theorem validCell_blend_nat {x : Cdf16} (hv : validCell x = true) (sym : Nat) (speed : BitVec 3) :
    validCell (blend x sym speed) = true := by
  by_cases hsym : sym < 16
  · have hnibble : (BitVec.ofNat 4 sym).toNat = sym := Nat.mod_eq_of_lt hsym
    exact hnibble ▸ validCell_blend hv (BitVec.ofNat 4 sym) speed
  · unfold blend
    rw [raiseFrom_of_le (Nat.le_of_not_lt hsym)]
    dsimp only
    split
    · exact validCell_rescale hv
    · exact hv

/-- A blend keeps a valid CDF2 valid (R226). -/
theorem validCdf2_blend2 {x : Cdf2} (hv : validCdf2 x = true) (bit : Bool) (speed : BitVec 3) :
    validCdf2 (blend2 x bit speed) = true := by
  obtain ⟨hfalse, htotal⟩ := blend2_counts hv bit speed
  obtain ⟨hpos, hlt, hmax⟩ := validCdf2_iff.mp hv
  have hinc := speedInc_le speed
  have hraised : 0 < raisedFalse x bit (speedInc speed) ∧
      raisedFalse x bit (speedInc speed) < x[1].toNat + speedInc speed := by
    unfold raisedFalse
    split <;> omega
  rw [validCdf2_iff, hfalse, htotal]
  split
  · omega
  · unfold decay
    omega

/-- An update keeps a weight at most 32768: it goes up by no more than what is missing (R313). -/
theorem weightUpdate_le {w : Nat} (hw : w ≤ 32768) (fa fb : Nat) : weightUpdate w fa fb ≤ 32768 := by
  unfold weightUpdate
  have hup : (32768 - w) / 2 ^ Config.weightShift ≤ 32768 - w := Nat.div_le_self _ _
  have hdown : w - w / 2 ^ Config.weightShift ≤ w := Nat.sub_le _ _
  repeat' split
  all_goals omega

/-! ### Cells and weights of the state -/

/-- Every weight read is in range: an index that has no register reads as 0. -/
theorem Context.weight_le {x : Context} (h : ∀ i : Fin 32, x.weights[i].toNat ≤ 32768) (ni hctx : Nat) :
    (x.weight ni hctx).toNat ≤ 32768 := by
  unfold Context.weight
  by_cases hi : 16 * ni + hctx < 32
  · rw [Vector.getElem?_eq_getElem hi]
    exact h ⟨_, hi⟩
  · rw [Vector.getElem?_eq_none (Nat.le_of_not_lt hi)]
    exact Nat.zero_le _

/-- Writing one weight in range leaves every weight in range (R30). -/
theorem Context.setWeight_weights_le {x : Context} (h : ∀ i : Fin 32, x.weights[i].toNat ≤ 32768) (ni hctx : Nat)
    {w : BitVec 16} (hw : w.toNat ≤ 32768) (i : Fin 32) : (x.setWeight ni hctx w).weights[i].toNat ≤ 32768 := by
  unfold Context.setWeight
  rw [Fin.getElem_fin, Vector.getElem_ofFn]
  split
  · exact hw
  · exact h i

/-- After a prior is written, its address reads as the cell written and every other address as before. -/
theorem State.prior_setPrior {s : State} (hcan : s.memoriesCanonical = true) (a : Nat) (x : Cdf16) (b : Nat) :
    (s.setPrior a x).prior b = if b = a then x else s.prior b := by
  obtain ⟨-, -, -, ⟨hwf, -⟩, -⟩ := s.memoriesCanonical_iff.mp hcan
  exact Memory.read_write hwf a b x

theorem State.cellsValid_setPrior {s : State} (hcan : s.memoriesCanonical = true) (hs : s.cellsValid) (a : Nat)
    {x : Cdf16} (hx : validCell x = true) : (s.setPrior a x).cellsValid := by
  obtain ⟨hpriors, hcdf2s, hweights⟩ := hs
  refine ⟨fun b => ?_, hcdf2s, hweights⟩
  rw [State.prior_setPrior hcan]
  split
  · exact hx
  · exact hpriors b

theorem State.cellsValid_setCdf2 {s : State} (hcan : s.memoriesCanonical = true) (hs : s.cellsValid) (a2 : Nibble)
    {x : Cdf2} (hx : validCdf2 x = true) : (s.setCdf2 a2 x).cellsValid := by
  obtain ⟨hpriors, hcdf2s, hweights⟩ := hs
  refine ⟨hpriors, fun b2 => ?_, hweights⟩
  rw [State.cdf2_setCdf2 hcan]
  split
  · exact hx
  · exact hcdf2s b2

/-- Where the model memories stay, only the weights are to be looked at. -/
theorem State.cellsValid_of_model_eq {s t : State} (hmodel : t.model = s.model) (hs : s.cellsValid)
    (hweights : ∀ i : Fin 32, t.ctx.weights[i].toNat ≤ 32768) : t.cellsValid := by
  obtain ⟨hpriors, hcdf2s, -⟩ := hs
  refine ⟨fun a => ?_, fun a2 => ?_, hweights⟩
  · rw [State.prior, hmodel]
    exact hpriors a
  · rw [State.cdf2, hmodel]
    exact hcdf2s a2

/-! ### The invariant -/

/-- Every move keeps the cells valid and the weights in range; `MIX` is not among the cells (log 5). -/
theorem Move.cellsValid {p : Part} {s t : State} (h : Move p s t) (hcan : s.memoriesCanonical = true)
    (hs : s.cellsValid) : t.cellsValid := by
  have ⟨hpriors, hcdf2s, hweights⟩ := hs
  cases h with
  | blend a v speed => exact State.cellsValid_setPrior hcan hs a (validCell_blend_nat (hpriors a) v speed)
  | writePrior a hx => exact State.cellsValid_setPrior hcan hs a hx
  | blend2 a2 bit speed => exact State.cellsValid_setCdf2 hcan hs a2 (validCdf2_blend2 (hcdf2s a2) bit speed)
  | codec _ _ _ hctx =>
    refine State.cellsValid_of_model_eq (State.withCodec_model _ _ _ _) hs ?_
    rw [State.withCodec_ctx, hctx.weights]
    exact hweights
  | weigh ni hctx fa fb =>
    refine State.cellsValid_of_model_eq (State.setCtx_model _ _) hs ?_
    rw [State.setCtx_ctx]
    refine Context.setWeight_weights_le hweights ni hctx ?_
    rw [BitVec.toNat_ofNat]
    exact (Nat.mod_le _ _).trans (weightUpdate_le (Context.weight_le hweights ni hctx) fa fb)
  | closed =>
    unfold fullyDecodedStep
    split <;> exact hs
  | _ => exact hs

theorem State.cellsValid_reset : State.reset.cellsValid := by
  have hcell : validCell defaultCdf = true := by decide
  have hcdf2 : validCdf2 defaultCdf2 = true := by decide
  exact ⟨fun _ => hcell, fun _ => hcdf2, by decide⟩

/-- Canonical memories and valid cells are kept together: what a cell reads as after a write needs the canonical form. -/
theorem cellsValid_stepInvariant : StepInvariant fun s => s.memoriesCanonical = true ∧ s.cellsValid :=
  .of_components (fun _ _ hs => hs) ⟨memoriesCanonical_stepInvariant.reset, State.cellsValid_reset⟩
    (fun decoding hs => by cases decoding <;> exact hs) fun h ⟨hcan, hs⟩ =>
      ⟨h.memoriesCanonical hcan, h.cellsValid hcan hs⟩

/-- Settles O57: `cellsValid`, with `memoriesCanonical`, is kept by every move. -/
theorem stepKeepsCellsValid : Obligations.StepKeepsCellsValid := fun _ _ hcan hs h =>
  (cellsValid_stepInvariant.step h ⟨hcan, hs⟩).2

/-- Settles O59: every invariant of a step holds of the state after `RESET`. -/
theorem resetHasInvariants : Obligations.ResetHasInvariants :=
  ⟨memoriesCanonical_stepInvariant.reset, cfgLegal_stepInvariant.reset, failureRecorded_stepInvariant.reset,
    eofConsistent_stepInvariant.reset, indicesInRange_stepInvariant.reset, cellsValid_stepInvariant.reset.2,
    sequenceOk_stepInvariant.reset⟩

/-! ### The failure entry -/

/-- Settles O9: every operation it speaks of is run by `runOp`, which refuses a failed session. -/
theorem failureIsSticky : Obligations.FailureIsSticky := by
  refine ⟨fun c s => rfl, fun i s hop hreset hstatus hf => ?_⟩
  obtain ⟨body, hexec⟩ := exec_eq_runOp hop hreset hstatus
  rw [hexec, runOp_failed hf]
  rfl

end Sys2Proof.Machine
end
